-- ==== Sys2Proof/Word.lean ====
section
/-! DEFINITION. The value types of the engine: bytes, 32-bit words, the 64-byte block, and four words.

`Word` arithmetic is that of `BitVec 32`: `+` is the spec's add32 (addition modulo 2^32, rule R160), `&&&`, `|||`, `^^^`
and `~~~` are its and32, or32, xor32 and not32 (rule R162). -/

namespace Sys2Proof

/-- A byte (R7: input unit; R50: the element of MSG, PADDED, BUF, DIGEST, HEX). -/
abbrev Byte := BitVec 8

/-- A 32-bit unsigned word (R7, R160). -/
abbrev Word := BitVec 32

/-- A block: exactly 64 bytes (R24, R60, R87). -/
abbrev Block := Vector Byte 64

/-- Four words, indexed 0..3. The Digest State H[0..3], whose words have the names A, B, C, D in that order (R21, R22),
and the working registers a, b, c, d (R34). -/
abbrev Regs := Vector Word 4

end Sys2Proof
end

