-- ==== Sys2Proof/Config.lean ====
section
/-! DEFINITION. The values the spec leaves open, as constants without a body: nothing can be proved of what they are.

Every parameter of R7 is fixed by the types and tables of the model; the number of instances NI is an argument of
Machine/Instances.lean. -/

namespace Sys2Proof

/-- What the DIGEST port shows on the n-th output read made while VALID = 0: any 16 bytes, possibly different on each
read (R33, R271, U2). Log entry 6. That equal `n` give equal bytes, in every instance and every run, is the model's choice
(log entry 19). -/
opaque Config.freeDigest : Nat → Vector Byte 16

/-- What the HEX port shows on the n-th output read made while VALID = 0: any 32 codes, possibly different on each
read (R33, R273, U2). Log entry 6. That equal `n` give equal codes, in every instance and every run, is the model's choice
(log entry 19). -/
opaque Config.freeHex : Nat → Vector Byte 32

end Sys2Proof
end

