-- ==== Sys2Proof/Syntax.lean ====
section
/-! DEFINITION. The instructions (one constructor per row of the opcode table), what may stand on the engine's two
decoded ports, and what the host may do. -/

namespace Sys2Proof

/-- The rows of the opcode table: format CMD (R81, R82, R84) and format ROUND (R100). Each CMD row carries the data
field CW[7:0]; for INIT and FINAL it must be 0 (checked by `Instr.wf`). -/
inductive Instr where
  /-- R291 -/
  | init (data : Byte)
  /-- R292 -/
  | update (data : Byte)
  /-- R293 -/
  | final (data : Byte)
  /-- R84: op = 0b11, no operation -/
  | reserved (data : Byte)
  -- R200 to R215: sub-pass 0
  | round0 | round1 | round2 | round3
  | round4 | round5 | round6 | round7
  | round8 | round9 | round10 | round11
  | round12 | round13 | round14 | round15
  -- R216 to R231: sub-pass 1
  | round16 | round17 | round18 | round19
  | round20 | round21 | round22 | round23
  | round24 | round25 | round26 | round27
  | round28 | round29 | round30 | round31
  -- R232 to R247: sub-pass 2
  | round32 | round33 | round34 | round35
  | round36 | round37 | round38 | round39
  | round40 | round41 | round42 | round43
  | round44 | round45 | round46 | round47
  -- R248 to R263: sub-pass 3
  | round48 | round49 | round50 | round51
  | round52 | round53 | round54 | round55
  | round56 | round57 | round58 | round59
  | round60 | round61 | round62 | round63
deriving DecidableEq, Repr

/-- One word of an opcode map: a 10-bit command word on the CMD port (R80, R81), or a 6-bit round selector (R100).
The host can present only the first; the second is the round datapath's (log entry 1). -/
inductive PortWord where
  | command (cw : BitVec 10)
  | selector (i : BitVec 6)
deriving DecidableEq, Repr

/-- What happens at the engine's boundary between two operations (R80, R339): the RESET event, with the command word
that was presented together with it and is dropped (R327), one word, or a read of one output. -/
inductive HostStep where
  | reset (dropped : Option (BitVec 10))
  | present (w : PortWord)
  | readStatus
  | readDigest
  | readHex
deriving DecidableEq, Repr

end Sys2Proof
end

