-- ==== Sys2Proof/WellFormed.lean ====
section
/-! DEFINITION. The check an instruction term must pass to stand for a word of the opcode table. -/

namespace Sys2Proof

/-- R81, R84: the data field "must be 0 for INIT and FINAL"; every other term is well formed. -/
def Instr.wf (i : Instr) : Bool :=
  match i with
  | .init data => data == 0
  | .final data => data == 0
  | _ => true

end Sys2Proof
end

