-- ==== Sys2Proof/Decode.lean ====
section
/-! DEFINITION. The decoder of both opcode maps, total, rejecting by name; after it the encoder, and the two probes the
host asks its table words with. -/

namespace Sys2Proof

/-- CW[9:8] (R81). -/
def opField (cw : BitVec 10) : BitVec 2 := cw.extractLsb' 8 2

/-- CW[7:0] (R81). -/
def dataField (cw : BitVec 10) : Byte := cw.extractLsb' 0 8

/-- Why a command word is no row of the table (R84). -/
inductive DecodeError where
  /-- op = 0b00 with a non-zero data field -/
  | initData (data : Byte)
  /-- op = 0b10 with a non-zero data field -/
  | finalData (data : Byte)
deriving DecidableEq, Repr

/-- R82, R84: the command word's operation. The words with op = 0b11 are the table's row RESERVED; the words with
op 0b00 or 0b10 and a non-zero data field are rejected by name. -/
def decodeCommand (cw : BitVec 10) : Except DecodeError Instr :=
  if opField cw = 0b00 then
    if dataField cw = 0 then .ok (.init 0) else .error (.initData (dataField cw))
  else if opField cw = 0b01 then .ok (.update (dataField cw))
  else if opField cw = 0b10 then
    if dataField cw = 0 then .ok (.final 0) else .error (.finalData (dataField cw))
  else .ok (.reserved (dataField cw))

/-- R84: the 766 illegal command words, as the rule lists them. -/
def illegalWord (cw : BitVec 10) : Bool :=
  opField cw == 0b11 || (opField cw == 0b00 && dataField cw != 0) || (opField cw == 0b10 && dataField cw != 0)

/-- The ROUND rows in ascending order of their selector (R100, R101). -/
def roundRows : List Instr :=
  [Instr.round0, Instr.round1, Instr.round2, Instr.round3, Instr.round4, Instr.round5, Instr.round6, Instr.round7, Instr.round8, Instr.round9, Instr.round10, Instr.round11, Instr.round12, Instr.round13, Instr.round14, Instr.round15] ++
  [Instr.round16, Instr.round17, Instr.round18, Instr.round19, Instr.round20, Instr.round21, Instr.round22, Instr.round23, Instr.round24, Instr.round25, Instr.round26, Instr.round27, Instr.round28, Instr.round29, Instr.round30, Instr.round31] ++
  [Instr.round32, Instr.round33, Instr.round34, Instr.round35, Instr.round36, Instr.round37, Instr.round38, Instr.round39, Instr.round40, Instr.round41, Instr.round42, Instr.round43, Instr.round44, Instr.round45, Instr.round46, Instr.round47] ++
  [Instr.round48, Instr.round49, Instr.round50, Instr.round51, Instr.round52, Instr.round53, Instr.round54, Instr.round55, Instr.round56, Instr.round57, Instr.round58, Instr.round59, Instr.round60, Instr.round61, Instr.round62, Instr.round63]

theorem roundRows_length : roundRows.length = 64 := rfl

/-- R101: every value of the 6-bit selector is a defined round. -/
def decodeSelector (i : BitVec 6) : Instr :=
  roundRows[i.toNat]'(roundRows_length ▸ i.isLt)

/-- The instruction a word of either map stands for. -/
def decode (w : PortWord) : Except DecodeError Instr :=
  match w with
  | .command cw => decodeCommand cw
  | .selector i => .ok (decodeSelector i)

/-- R82, R100: the word of an instruction, op above data, or the round's selector. -/
def encode (i : Instr) : PortWord :=
  match i with
  | .init data => .command (0b00#2 ++ data)
  | .update data => .command (0b01#2 ++ data)
  | .final data => .command (0b10#2 ++ data)
  | .reserved data => .command (0b11#2 ++ data)
  | .round0 => .selector 0
  | .round1 => .selector 1
  | .round2 => .selector 2
  | .round3 => .selector 3
  | .round4 => .selector 4
  | .round5 => .selector 5
  | .round6 => .selector 6
  | .round7 => .selector 7
  | .round8 => .selector 8
  | .round9 => .selector 9
  | .round10 => .selector 10
  | .round11 => .selector 11
  | .round12 => .selector 12
  | .round13 => .selector 13
  | .round14 => .selector 14
  | .round15 => .selector 15
  | .round16 => .selector 16
  | .round17 => .selector 17
  | .round18 => .selector 18
  | .round19 => .selector 19
  | .round20 => .selector 20
  | .round21 => .selector 21
  | .round22 => .selector 22
  | .round23 => .selector 23
  | .round24 => .selector 24
  | .round25 => .selector 25
  | .round26 => .selector 26
  | .round27 => .selector 27
  | .round28 => .selector 28
  | .round29 => .selector 29
  | .round30 => .selector 30
  | .round31 => .selector 31
  | .round32 => .selector 32
  | .round33 => .selector 33
  | .round34 => .selector 34
  | .round35 => .selector 35
  | .round36 => .selector 36
  | .round37 => .selector 37
  | .round38 => .selector 38
  | .round39 => .selector 39
  | .round40 => .selector 40
  | .round41 => .selector 41
  | .round42 => .selector 42
  | .round43 => .selector 43
  | .round44 => .selector 44
  | .round45 => .selector 45
  | .round46 => .selector 46
  | .round47 => .selector 47
  | .round48 => .selector 48
  | .round49 => .selector 49
  | .round50 => .selector 50
  | .round51 => .selector 51
  | .round52 => .selector 52
  | .round53 => .selector 53
  | .round54 => .selector 54
  | .round55 => .selector 55
  | .round56 => .selector 56
  | .round57 => .selector 57
  | .round58 => .selector 58
  | .round59 => .selector 59
  | .round60 => .selector 60
  | .round61 => .selector 61
  | .round62 => .selector 62
  | .round63 => .selector 63

/-- Which port a word of the opcode table belongs on, from the number of bits the table gives it (log entry 8): up to
8 bits a round selector; up to 16 a command word where it is the word of a CMD row, else a selector; a longer word
can only be a selector row to which the table's reader gave extra bit positions. -/
def tablePort (nbits w : Nat) : PortWord :=
  if nbits ≤ 8 then .selector (BitVec.ofNat 6 w)
  else if nbits ≤ 16 ∧ w < 1024 then
    match decodeCommand (BitVec.ofNat 10 w) with
    | .ok _ => .command (BitVec.ofNat 10 w)
    | .error _ => .selector (BitVec.ofNat 6 w)
  else .selector (BitVec.ofNat 6 w)

/-- The instruction the decoder reads from a table word, none where it rejects. -/
def decodeTableWord (nbits w : Nat) : Option Instr :=
  match decode (tablePort nbits w) with
  | .ok i => some i
  | .error _ => none

end Sys2Proof
end

