-- ==== Sys2Proof/Machine/Schedule.lean ====
section
/-! DEFINITION. The constant tables (R36: definitions, not state) and the round selector's fields: IV, g, S, K. -/

namespace Sys2Proof.Machine

open Sys2Proof

/-- R146: the Digest State at the start of every digest computation. -/
def iv : Regs := #v[0x67452301, 0xefcdab89, 0x98badcfe, 0x10325476]

/-- i[5:4], the sub-pass (R100). -/
def passOf (i : BitVec 6) : Fin 4 := (i.extractLsb' 4 2).toFin

/-- i[3:0], the position inside the sub-pass (R100). -/
def stepOf (i : BitVec 6) : Fin 16 := (i.extractLsb' 0 4).toFin

/-- R142: the index of the message word that round `i` adds. -/
def wordIndex (i : BitVec 6) : Fin 16 :=
  match passOf i with
  | 0 => Fin.ofNat 16 i.toNat
  | 1 => Fin.ofNat 16 (5 * i.toNat + 1)
  | 2 => Fin.ofNat 16 (3 * i.toNat + 5)
  | 3 => Fin.ofNat 16 (7 * i.toNat)

/-- R148: the four amounts of a sub-pass, by i[1:0]. -/
def rotationRow (pass low : Fin 4) : Nat :=
  match pass, low with
  | 0, 0 => 7 | 0, 1 => 12 | 0, 2 => 17 | 0, 3 => 22
  | 1, 0 => 5 | 1, 1 => 9 | 1, 2 => 14 | 1, 3 => 20
  | 2, 0 => 4 | 2, 1 => 11 | 2, 2 => 16 | 2, 3 => 23
  | 3, 0 => 6 | 3, 1 => 10 | 3, 2 => 15 | 3, 3 => 21

/-- R147, R148: S[i]. -/
def rotation (i : BitVec 6) : Nat := rotationRow (passOf i) (i.extractLsb' 0 2).toFin

/-- R150: the literal table K[0..63]. -/
def kTable : List Word :=
  [0xd76aa478, 0xe8c7b756, 0x242070db, 0xc1bdceee,
   0xf57c0faf, 0x4787c62a, 0xa8304613, 0xfd469501,
   0x698098d8, 0x8b44f7af, 0xffff5bb1, 0x895cd7be,
   0x6b901122, 0xfd987193, 0xa679438e, 0x49b40821] ++
  [0xf61e2562, 0xc040b340, 0x265e5a51, 0xe9b6c7aa,
   0xd62f105d, 0x02441453, 0xd8a1e681, 0xe7d3fbc8,
   0x21e1cde6, 0xc33707d6, 0xf4d50d87, 0x455a14ed,
   0xa9e3e905, 0xfcefa3f8, 0x676f02d9, 0x8d2a4c8a] ++
  [0xfffa3942, 0x8771f681, 0x6d9d6122, 0xfde5380c,
   0xa4beea44, 0x4bdecfa9, 0xf6bb4b60, 0xbebfbc70,
   0x289b7ec6, 0xeaa127fa, 0xd4ef3085, 0x04881d05,
   0xd9d4d039, 0xe6db99e5, 0x1fa27cf8, 0xc4ac5665] ++
  [0xf4292244, 0x432aff97, 0xab9423a7, 0xfc93a039,
   0x655b59c3, 0x8f0ccc92, 0xffeff47d, 0x85845dd1,
   0x6fa87e4f, 0xfe2ce6e0, 0xa3014314, 0x4e0811a1,
   0xf7537e82, 0xbd3af235, 0x2ad7d2bb, 0xeb86d391]

/-- K[i] (R150). -/
def kConst (i : BitVec 6) : Word := kTable[i.toNat]'(i.isLt)

/-! R151: the constants derived from the formula of R149, to hold the literal table to it. The engine uses the table
(R36); nothing of `exec` calls what follows. Sines are integers in units of 2^-80, far finer than the least distance of
2^32 |sin(i + 1)| from an integer (0.0154, R150); the statement AdditiveConstantsAreSines holds the table to the real
sine itself. -/

/-- The first `n` terms of the power series at 1 that begins at exponent `first`: the cosine's for 0, the sine's for 1. -/
def seriesAtOne (first n : Nat) : Int :=
  match n with
  | 0 => 0
  | n + 1 => seriesAtOne first n + (-1) ^ n * (2 ^ 80 / ((2 * n + first).factorial : Int))

/-- (cos n, sin n), n in radians, each from those of n - 1 by the addition formulas. -/
def cosSin (n : Nat) : Int × Int :=
  match n with
  | 0 => (2 ^ 80, 0)
  | n + 1 =>
    match cosSin n with
    | (c, s) => ((c * seriesAtOne 0 16 - s * seriesAtOne 1 16) / 2 ^ 80, (c * seriesAtOne 1 16 + s * seriesAtOne 0 16) / 2 ^ 80)

/-- floor(2^32 |sin(i + 1)|), derived programmatically (R149, R151). -/
def kFromSine (i : BitVec 6) : Word := BitVec.ofNat 32 (2 ^ 32 * (cosSin (i.toNat + 1)).2.natAbs / 2 ^ 80)

/-- R151: the cross-check of the literal table against the formula, all 64 entries. -/
def kTableMatchesFormula : Bool := (List.range 64).all fun n => kConst (BitVec.ofNat 6 n) == kFromSine (BitVec.ofNat 6 n)

end Sys2Proof.Machine
end

