-- ==== Sys2Proof/Machine/State.lean ====
section
/-! DEFINITION. The state of one engine instance, its faults and refusals, and the state right after reset. -/

namespace Sys2Proof.Machine

open Sys2Proof

/-- R27: PHASE, one bit, ABSORB = 0 or DONE = 1. -/
inductive Phase where
  | absorb
  | done
deriving DecidableEq, Repr

/-- R29, R321: ERRCODE, two bits, all four values defined. -/
inductive ErrCode where
  | noFault
  | finalWhenDone
  | updateWhenDone
  | illegalCommand
deriving DecidableEq, Repr

/-- R321: the causes `raise Fault(code)` takes, codes 1, 2, 3. -/
inductive Violation where
  | finalWhenDone
  | updateWhenDone
  | illegalCommand
deriving DecidableEq, Repr

/-- What one host read returned (R62: all of the output, as of one instant). -/
inductive Reading where
  | status (bits : BitVec 8)
  | digest (bytes : Vector Byte 16)
  | hex (codes : Vector Byte 32)
deriving DecidableEq, Repr

/-- One instance. `h`, `buf`, `len`, `phase`, `err` and `errCode` are the elements of R20; the other fields are the
model's own (log entries 1, 2, 4, 5, 6) and no command reads them. -/
structure State where
  /-- H[0..3] (R21, R22, R23) -/
  h : Regs
  /-- BUF[0..63] (R24, R25) -/
  buf : Block
  /-- LEN (R26) -/
  len : BitVec 64
  /-- PHASE (R27) -/
  phase : Phase
  /-- ERR (R28) -/
  err : Bool
  /-- ERRCODE (R29) -/
  errCode : ErrCode
  /-- the working registers a, b, c, d of a compression (R34), written by the ROUND rows only -/
  work : Regs
  /-- the host steps still to come, next first -/
  pending : List HostStep
  /-- what the host has read so far, oldest first -/
  seen : List Reading
  /-- how many output reads were made while VALID = 0: the index of the next free value (U2) -/
  freeReads : Nat
deriving DecidableEq, Repr

/-- Why a step of the model stops with a fault: never. The engine's own faults (R321) are transitions to a state with
ERR = 1 (R324), that is, next states; no rule stops the machine, so this type has no value. Safe. -/
inductive Fault where
deriving DecidableEq, Repr

/-- Why a step has no meaning. -/
inductive Refusal where
  /-- An instruction without a meaning yet, by its mnemonic. Raised by `exec`'s refused arms, of which there are none.
  Safe: nothing is proved of a step that is refused. -/
  | notModelled (mnemonic : String)
deriving DecidableEq, Repr

/-- R40: the state after the RESET event. BUF, `work` and the model's own fields hold the values of log entries 2, 3,
4, 5, 6. -/
def State.reset : State where
  h := iv
  buf := Vector.replicate 64 0
  len := 0
  phase := .absorb
  err := false
  errCode := .noFault
  work := iv
  pending := []
  seen := []
  freeReads := 0

end Sys2Proof.Machine
end

