-- ==== Sys2Proof/Machine/Operands.lean ====
section
/-! DEFINITION. Operand forms: reads and writes of bytes and words of a block, the little-endian bytes of a number, the
fields of LEN, and the rotation of a word. -/

namespace Sys2Proof.Machine

open Sys2Proof

/-- Byte `k` of `v`, bits 8k+7:8k (R54, R89, R270). -/
def byteOf (v : BitVec n) (k : Nat) : Byte := v.extractLsb' (8 * k) 8

/-- R53, R140: M[j] = MemRead(4j, 4), byte 4j least significant. -/
def blockWord (blk : Block) (j : Fin 16) : Word :=
  blk[4 * j.val + 3] ++ blk[4 * j.val + 2] ++ blk[4 * j.val + 1] ++ blk[4 * j.val]

/-- MemWrite(j, 1, v): BUF[j] <- v (spec 00_scope.md, notation). -/
def writeByte (blk : Block) (j : Fin 64) (v : Byte) : Block := blk.set j.val v

/-- for j = lo .. hi-1: BUF[j] <- 0x00 (R293). -/
def zeroFill (blk : Block) (lo hi : Nat) : Block :=
  Vector.ofFn fun j => if lo ≤ j.val ∧ j.val < hi then 0 else blk[j]

/-- MemWrite(56, 8, v): BUF[56+k] <- byte k of v, k = 0..7 (R54, R293; spec 00_scope.md, notation). -/
def writeLength (blk : Block) (v : BitVec 64) : Block :=
  Vector.ofFn fun j => if 56 ≤ j.val then byteOf v (j.val - 56) else blk[j]

/-- R32: FILL = LEN[5:0]. -/
def fillOf (len : BitVec 64) : Fin 64 := (len.extractLsb' 0 6).toFin

/-- FILL of a state (R32). -/
def State.fill (s : State) : Fin 64 := fillOf s.len

/-- R126: BITLEN = LEN[60:0] above three 0 bits. -/
def bitLen (len : BitVec 64) : BitVec 64 := len.extractLsb' 0 61 ++ 0b000#3

/-- R161: `x` rotated left by `s`, for 0 ≤ s ≤ 31: bits pushed out on the left re-enter on the right.
For 32 and more, which a model need not define, it is what the shifts give (DESIGN CHOICE, log entry 20). -/
def rotl32 (x : Word) (s : Nat) : Word := x <<< s ||| x >>> (32 - s)

end Sys2Proof.Machine
end

