-- ==== Sys2Proof/Machine/Flags.lean ====
section
/-! DEFINITION. The flags PHASE, ERR, ERRCODE as bits, and the views STATUS and VALID. -/

namespace Sys2Proof.Machine

open Sys2Proof

/-- R27: ABSORB = 0, DONE = 1. -/
def Phase.bit (p : Phase) : BitVec 1 :=
  match p with
  | .absorb => 0
  | .done => 1

/-- R29, R321: the two bits of ERRCODE. -/
def ErrCode.bits (c : ErrCode) : BitVec 2 :=
  match c with
  | .noFault => 0
  | .finalWhenDone => 1
  | .updateWhenDone => 2
  | .illegalCommand => 3

/-- R321: the code a violation is recorded under. -/
def Violation.code (v : Violation) : ErrCode :=
  match v with
  | .finalWhenDone => .finalWhenDone
  | .updateWhenDone => .updateWhenDone
  | .illegalCommand => .illegalCommand

/-- R31, R104: bit 0 DONE, bit 1 ERR, bits 3:2 ERRCODE, bits 7:4 zero. -/
def State.status (s : State) : BitVec 8 :=
  0#4 ++ s.errCode.bits ++ BitVec.ofBool s.err ++ s.phase.bit

/-- R33: VALID is PHASE = DONE and ERR = 0. -/
def State.valid (s : State) : Bool := s.phase == .done && !s.err

end Sys2Proof.Machine
end

