-- ==== Sys2Proof/Machine/Compression.lean ====
section
/-! DEFINITION. The compression function: the four mixing functions, the round, the 64 rounds, the feed-forward. Pure
functions of words and blocks (R177). -/

namespace Sys2Proof.Machine

open Sys2Proof

/-- R164 -/
def mixF (x y z : Word) : Word := (x &&& y) ||| (~~~x &&& z)

/-- R165 -/
def mixG (x y z : Word) : Word := (x &&& z) ||| (y &&& ~~~z)

/-- R166 -/
def mixH (x y z : Word) : Word := x ^^^ y ^^^ z

/-- R167 -/
def mixI (x y z : Word) : Word := y ^^^ (x ||| ~~~z)

/-- R168: the mixing function of a sub-pass. -/
def mixOf (pass : Fin 4) : Word → Word → Word → Word :=
  match pass with
  | 0 => mixF
  | 1 => mixG
  | 2 => mixH
  | 3 => mixI

/-- R169: one round, given its mixing function, constant, message word and rotation amount. -/
def roundWith (mix : Word → Word → Word → Word) (k m : Word) (r : Nat) (w : Regs) : Regs :=
  #v[w[3], w[1] + rotl32 (w[0] + mix w[1] w[2] w[3] + k + m) r, w[1], w[2]]

/-- R169: Round(i, (a, b, c, d), M), every operand from the tables. -/
def round (i : BitVec 6) (blk : Block) (w : Regs) : Regs :=
  roundWith (mixOf (passOf i)) (kConst i) (blockWord blk (wordIndex i)) (rotation i) w

/-- R176: rounds 0 to n-1 in ascending order. -/
def rounds (blk : Block) (n : Nat) (w : Regs) : Regs :=
  match n with
  | 0 => w
  | n + 1 => round (BitVec.ofNat 6 n) blk (rounds blk n w)

/-- R175: the working registers added back into the state. -/
def feedForward (h w : Regs) : Regs := #v[h[0] + w[0], h[1] + w[1], h[2] + w[2], h[3] + w[3]]

/-- R176: Compress(h, block). Irreducible, so that comparing two compressions never runs their 64 rounds. -/
@[irreducible] def compress (h : Regs) (blk : Block) : Regs := feedForward h (rounds blk 64 h)

end Sys2Proof.Machine
end

