-- ==== Sys2Proof/Machine/Padder.lean ====
section
/-! DEFINITION. The padder as a pure function on a whole message, and the fold of the compression over its blocks. -/

namespace Sys2Proof.Machine

open Sys2Proof

/-- R126, R89: LF(L), the 8 bytes of 8·L mod 2^64, least significant first. -/
def lengthField (L : Nat) : List Byte := (List.range 8).map (byteOf (BitVec.ofNat 64 (8 * L)))

/-- R120: z = (55 - L) mod 64, in 0..63 also where L is above 55. -/
def padZeros (L : Nat) : Nat := ((55 - (L : Int)) % 64).toNat

/-- R120: Pad(m). -/
def pad (m : List Byte) : List Byte :=
  m ++ [0x80] ++ List.replicate (padZeros m.length) 0 ++ lengthField m.length

/-- Block `k` of a byte sequence: its bytes 64k .. 64k+63 (R52, R122). Past the sequence's end, where no rule speaks, a
byte is 0 (DESIGN CHOICE, log entry 20). -/
def blockAt (p : List Byte) (k : Nat) : Block := Vector.ofFn fun j => p.getD (64 * k + j.val) 0

/-- R122: Blocks(p), the whole 64-byte blocks of `p` in order. A partial last block, for which R122 gives no value though
R128 has Blocks defined on every sequence, is dropped (DESIGN CHOICE, log entry 20). -/
def blocks (p : List Byte) : List Block := (List.range (p.length / 64)).map (blockAt p)

/-- R178: Fold(h, p). Where the length of `p` is no multiple of 64, which R178 does not take, a partial last block is
dropped (DESIGN CHOICE, log entry 20). -/
def fold (h : Regs) (p : List Byte) : Regs := (blocks p).foldl compress h

end Sys2Proof.Machine
end

