-- ==== Sys2Proof/Machine/Finalizer.lean ====
section
/-! DEFINITION. The digest finalizer: state words to 16 bytes to 32 character codes; and the digest function. -/

namespace Sys2Proof.Machine

open Sys2Proof

/-- R270, R102: Serialize(h)[4w + k] = bits 8k+7:8k of word w. -/
def serialize (h : Regs) : Vector Byte 16 :=
  Vector.ofFn fun n => byteOf h[n.val / 4] (n.val % 4)

/-- R272, R103: the ASCII code of a lowercase hexadecimal digit. -/
def hexDigit (v : BitVec 4) : Byte :=
  if v ≤ 9 then 0x30 + v.zeroExtend 8 else 0x57 + v.zeroExtend 8

/-- R273: two characters a byte, the high four bits first. -/
def hex (d : Vector Byte 16) : Vector Byte 32 :=
  Vector.ofFn fun j => hexDigit ((d[j.val / 2]).extractLsb' (if j.val % 2 = 0 then 4 else 0) 4)

/-- R297: MD5(m). -/
def md5 (m : List Byte) : Vector Byte 32 := hex (serialize (fold iv (pad m)))

end Sys2Proof.Machine
end

