-- ==== Sys2Proof/Machine/Ops.lean ====
section
/-! DEFINITION. The named operations over State: one update per field, raising a fault, the guard of a faulted engine,
compressing the buffer, running one round, the RESET event and the host's reads. -/

namespace Sys2Proof.Machine

open Sys2Proof

def State.setH (s : State) (v : Regs) : State := { s with h := v }
def State.setBuf (s : State) (v : Block) : State := { s with buf := v }
def State.setLen (s : State) (v : BitVec 64) : State := { s with len := v }
def State.setPhase (s : State) (v : Phase) : State := { s with phase := v }
def State.setErr (s : State) (v : Bool) (c : ErrCode) : State := { s with err := v, errCode := c }
def State.setWork (s : State) (v : Regs) : State := { s with work := v }
def State.setPending (s : State) (v : List HostStep) : State := { s with pending := v }
def State.addSeen (s : State) (r : Reading) : State := { s with seen := s.seen ++ [r] }
def State.nextFree (s : State) : State := { s with freeReads := s.freeReads + 1 }

/-- R324: `raise Fault(code)`: ERR <- 1, ERRCODE <- code and nothing more. There is no handler, no saved context and no
return (R328, R331). -/
def raiseFault (v : Violation) (s : State) : State := s.setErr true v.code

/-- R290, R326: while ERR = 1 a presented command word is ignored; else it has its effect. -/
def unlessFaulted (effect : State → State) (s : State) : State := if s.err then s else effect s

/-- H <- Compress(H, BUF) (R292, R293). -/
def compressBuf (s : State) : State := s.setH (compress s.h s.buf)

/-- What a presented word that the decoder rejects does (R84, R290). -/
def rejectWord (s : State) : State := unlessFaulted (raiseFault .illegalCommand) s

/-- One row of format ROUND: the working registers take Round's result over the words of BUF (R169). It reads neither
ERR nor PHASE and cannot fault (log entries 1, 16). -/
def runRound (mix : Word → Word → Word → Word) (k : Word) (j : Fin 16) (r : Nat) (s : State) :
    Host.Outcome State Fault Refusal :=
  .next (s.setWork (roundWith mix k (blockWord s.buf j) r s.work))

/-- R350: the RESET event. What the host still does and has read is the host's and stays; so does the free-value
counter (log entry 10). -/
def resetEvent (s : State) : State :=
  { State.reset with pending := s.pending, seen := s.seen, freeReads := s.freeReads }

/-- R31, R64: a read of STATUS. -/
def readStatus (s : State) : State := s.addSeen (.status s.status)

/-- R270, R271: a read of DIGEST: Serialize(H) when VALID, else any value, which the counter `freeReads` alone
picks (log entries 6, 19). -/
def readDigest (s : State) : State :=
  if s.valid then s.addSeen (.digest (serialize s.h))
  else (s.addSeen (.digest (Config.freeDigest s.freeReads))).nextFree

/-- R273, R271: a read of HEX: Hex(DIGEST) when VALID, else any value, which the counter `freeReads` alone picks
(log entries 6, 19). -/
def readHex (s : State) : State :=
  if s.valid then s.addSeen (.hex (hex (serialize s.h)))
  else (s.addSeen (.hex (Config.freeHex s.freeReads))).nextFree

end Sys2Proof.Machine
end

