-- ==== Sys2Proof/Machine/HostOps.lean ====
section
/-! DEFINITION. The meanings of the rows of format CMD, and the pseudo-operations built from them. -/

namespace Sys2Proof.Machine

open Sys2Proof

/-- R291: the writes of INIT. -/
def startMessage (s : State) : State := ((s.setH iv).setLen 0).setPhase .absorb

/-- R292: the writes of an accepted UPDATE. `Compress` sees the BUF that includes this byte. -/
def absorbByte (data : Byte) (s : State) : State :=
  let t := (s.setBuf (writeByte s.buf s.fill data)).setLen (s.len + 1)
  if s.fill = 63 then compressBuf t else t

/-- R293: the marker at FILL and the zero fill to the end of its block. -/
def padMarker (s : State) : State :=
  s.setBuf (zeroFill (writeByte s.buf s.fill 0x80) (s.fill.val + 1) 64)

/-- R293, n ≥ 56: the marker's block is folded and the all-padding block begun. -/
def spillBlock (s : State) : State :=
  (compressBuf s).setBuf (zeroFill s.buf 0 56)

/-- R293: the writes of an accepted FINAL. -/
def finishMessage (s : State) : State :=
  let t := padMarker s
  let u := if 56 ≤ s.fill.val then spillBlock t else t
  (compressBuf (u.setBuf (writeLength u.buf (bitLen u.len)))).setPhase .done

/-- R291: INIT at ERR = 0; a non-zero data field is an illegal word (R84, log entry 15). -/
def initEffect (data : Byte) (s : State) : State :=
  if data = 0 then startMessage s else raiseFault .illegalCommand s

/-- R292: UPDATE at ERR = 0. -/
def updateEffect (data : Byte) (s : State) : State :=
  if s.phase = .done then raiseFault .updateWhenDone s else absorbByte data s

/-- R293: FINAL at ERR = 0; a non-zero data field is an illegal word, reported before the phase (R84, R327, log entry
15). -/
def finalEffect (data : Byte) (s : State) : State :=
  if data = 0 then if s.phase = .done then raiseFault .finalWhenDone s else finishMessage s
  else raiseFault .illegalCommand s

/-- R290, R291: INIT. -/
def execInit (data : Byte) (s : State) : Host.Outcome State Fault Refusal := .next (unlessFaulted (initEffect data) s)

/-- R290, R292: UPDATE. -/
def execUpdate (data : Byte) (s : State) : Host.Outcome State Fault Refusal :=
  .next (unlessFaulted (updateEffect data) s)

/-- R290, R293: FINAL. -/
def execFinal (data : Byte) (s : State) : Host.Outcome State Fault Refusal :=
  .next (unlessFaulted (finalEffect data) s)

/-- R84, R290: a word of the reserved row raises Fault(ILLEGAL_COMMAND), whatever its data field. -/
def execReserved (_data : Byte) (s : State) : Host.Outcome State Fault Refusal := .next (rejectWord s)

/-! The pseudo-operations (R106, R294 to R296) as the host steps they expand to. -/

/-- The host presents the word of an instruction. -/
def presentInstr (i : Instr) : HostStep := .present (encode i)

/-- R295: UPDATES c. -/
def updates (c : List Byte) : List HostStep := c.map fun b => presentInstr (.update b)

/-- R296: FINALIZE. -/
def finalize : List HostStep := [presentInstr (.final 0), .readHex]

/-- R294: DIGEST m. -/
def digestOps (m : List Byte) : List HostStep := presentInstr (.init 0) :: updates m ++ finalize

end Sys2Proof.Machine
end

