-- ==== Sys2Proof/Machine/Rounds.lean ====
section
/-! DEFINITION. The meanings of the 64 rows of format ROUND, as the listing R200 to R263 prints them: mixing function,
constant, message-word index, rotation amount. That they agree with the tables of R142, R148, R150 is a statement about
the model, not its definition. -/

namespace Sys2Proof.Machine

open Sys2Proof

/-! Sub-pass 0 -/

/-- R200 -/
def execRound0 (s : State) : Host.Outcome State Fault Refusal := runRound mixF 0xd76aa478 0 7 s

/-- R201 -/
def execRound1 (s : State) : Host.Outcome State Fault Refusal := runRound mixF 0xe8c7b756 1 12 s

/-- R202 -/
def execRound2 (s : State) : Host.Outcome State Fault Refusal := runRound mixF 0x242070db 2 17 s

/-- R203 -/
def execRound3 (s : State) : Host.Outcome State Fault Refusal := runRound mixF 0xc1bdceee 3 22 s

/-- R204 -/
def execRound4 (s : State) : Host.Outcome State Fault Refusal := runRound mixF 0xf57c0faf 4 7 s

/-- R205 -/
def execRound5 (s : State) : Host.Outcome State Fault Refusal := runRound mixF 0x4787c62a 5 12 s

/-- R206 -/
def execRound6 (s : State) : Host.Outcome State Fault Refusal := runRound mixF 0xa8304613 6 17 s

/-- R207 -/
def execRound7 (s : State) : Host.Outcome State Fault Refusal := runRound mixF 0xfd469501 7 22 s

/-- R208 -/
def execRound8 (s : State) : Host.Outcome State Fault Refusal := runRound mixF 0x698098d8 8 7 s

/-- R209 -/
def execRound9 (s : State) : Host.Outcome State Fault Refusal := runRound mixF 0x8b44f7af 9 12 s

/-- R210 -/
def execRound10 (s : State) : Host.Outcome State Fault Refusal := runRound mixF 0xffff5bb1 10 17 s

/-- R211 -/
def execRound11 (s : State) : Host.Outcome State Fault Refusal := runRound mixF 0x895cd7be 11 22 s

/-- R212 -/
def execRound12 (s : State) : Host.Outcome State Fault Refusal := runRound mixF 0x6b901122 12 7 s

/-- R213 -/
def execRound13 (s : State) : Host.Outcome State Fault Refusal := runRound mixF 0xfd987193 13 12 s

/-- R214 -/
def execRound14 (s : State) : Host.Outcome State Fault Refusal := runRound mixF 0xa679438e 14 17 s

/-- R215 -/
def execRound15 (s : State) : Host.Outcome State Fault Refusal := runRound mixF 0x49b40821 15 22 s

/-! Sub-pass 1 -/

/-- R216 -/
def execRound16 (s : State) : Host.Outcome State Fault Refusal := runRound mixG 0xf61e2562 1 5 s

/-- R217 -/
def execRound17 (s : State) : Host.Outcome State Fault Refusal := runRound mixG 0xc040b340 6 9 s

/-- R218 -/
def execRound18 (s : State) : Host.Outcome State Fault Refusal := runRound mixG 0x265e5a51 11 14 s

/-- R219 -/
def execRound19 (s : State) : Host.Outcome State Fault Refusal := runRound mixG 0xe9b6c7aa 0 20 s

/-- R220 -/
def execRound20 (s : State) : Host.Outcome State Fault Refusal := runRound mixG 0xd62f105d 5 5 s

/-- R221 -/
def execRound21 (s : State) : Host.Outcome State Fault Refusal := runRound mixG 0x02441453 10 9 s

/-- R222 -/
def execRound22 (s : State) : Host.Outcome State Fault Refusal := runRound mixG 0xd8a1e681 15 14 s

/-- R223 -/
def execRound23 (s : State) : Host.Outcome State Fault Refusal := runRound mixG 0xe7d3fbc8 4 20 s

/-- R224 -/
def execRound24 (s : State) : Host.Outcome State Fault Refusal := runRound mixG 0x21e1cde6 9 5 s

/-- R225 -/
def execRound25 (s : State) : Host.Outcome State Fault Refusal := runRound mixG 0xc33707d6 14 9 s

/-- R226 -/
def execRound26 (s : State) : Host.Outcome State Fault Refusal := runRound mixG 0xf4d50d87 3 14 s

/-- R227 -/
def execRound27 (s : State) : Host.Outcome State Fault Refusal := runRound mixG 0x455a14ed 8 20 s

/-- R228 -/
def execRound28 (s : State) : Host.Outcome State Fault Refusal := runRound mixG 0xa9e3e905 13 5 s

/-- R229 -/
def execRound29 (s : State) : Host.Outcome State Fault Refusal := runRound mixG 0xfcefa3f8 2 9 s

/-- R230 -/
def execRound30 (s : State) : Host.Outcome State Fault Refusal := runRound mixG 0x676f02d9 7 14 s

/-- R231 -/
def execRound31 (s : State) : Host.Outcome State Fault Refusal := runRound mixG 0x8d2a4c8a 12 20 s

/-! Sub-pass 2 -/

/-- R232 -/
def execRound32 (s : State) : Host.Outcome State Fault Refusal := runRound mixH 0xfffa3942 5 4 s

/-- R233 -/
def execRound33 (s : State) : Host.Outcome State Fault Refusal := runRound mixH 0x8771f681 8 11 s

/-- R234 -/
def execRound34 (s : State) : Host.Outcome State Fault Refusal := runRound mixH 0x6d9d6122 11 16 s

/-- R235 -/
def execRound35 (s : State) : Host.Outcome State Fault Refusal := runRound mixH 0xfde5380c 14 23 s

/-- R236 -/
def execRound36 (s : State) : Host.Outcome State Fault Refusal := runRound mixH 0xa4beea44 1 4 s

/-- R237 -/
def execRound37 (s : State) : Host.Outcome State Fault Refusal := runRound mixH 0x4bdecfa9 4 11 s

/-- R238 -/
def execRound38 (s : State) : Host.Outcome State Fault Refusal := runRound mixH 0xf6bb4b60 7 16 s

/-- R239 -/
def execRound39 (s : State) : Host.Outcome State Fault Refusal := runRound mixH 0xbebfbc70 10 23 s

/-- R240 -/
def execRound40 (s : State) : Host.Outcome State Fault Refusal := runRound mixH 0x289b7ec6 13 4 s

/-- R241 -/
def execRound41 (s : State) : Host.Outcome State Fault Refusal := runRound mixH 0xeaa127fa 0 11 s

/-- R242 -/
def execRound42 (s : State) : Host.Outcome State Fault Refusal := runRound mixH 0xd4ef3085 3 16 s

/-- R243 -/
def execRound43 (s : State) : Host.Outcome State Fault Refusal := runRound mixH 0x04881d05 6 23 s

/-- R244 -/
def execRound44 (s : State) : Host.Outcome State Fault Refusal := runRound mixH 0xd9d4d039 9 4 s

/-- R245 -/
def execRound45 (s : State) : Host.Outcome State Fault Refusal := runRound mixH 0xe6db99e5 12 11 s

/-- R246 -/
def execRound46 (s : State) : Host.Outcome State Fault Refusal := runRound mixH 0x1fa27cf8 15 16 s

/-- R247 -/
def execRound47 (s : State) : Host.Outcome State Fault Refusal := runRound mixH 0xc4ac5665 2 23 s

/-! Sub-pass 3 -/

/-- R248 -/
def execRound48 (s : State) : Host.Outcome State Fault Refusal := runRound mixI 0xf4292244 0 6 s

/-- R249 -/
def execRound49 (s : State) : Host.Outcome State Fault Refusal := runRound mixI 0x432aff97 7 10 s

/-- R250 -/
def execRound50 (s : State) : Host.Outcome State Fault Refusal := runRound mixI 0xab9423a7 14 15 s

/-- R251 -/
def execRound51 (s : State) : Host.Outcome State Fault Refusal := runRound mixI 0xfc93a039 5 21 s

/-- R252 -/
def execRound52 (s : State) : Host.Outcome State Fault Refusal := runRound mixI 0x655b59c3 12 6 s

/-- R253 -/
def execRound53 (s : State) : Host.Outcome State Fault Refusal := runRound mixI 0x8f0ccc92 3 10 s

/-- R254 -/
def execRound54 (s : State) : Host.Outcome State Fault Refusal := runRound mixI 0xffeff47d 10 15 s

/-- R255 -/
def execRound55 (s : State) : Host.Outcome State Fault Refusal := runRound mixI 0x85845dd1 1 21 s

/-- R256 -/
def execRound56 (s : State) : Host.Outcome State Fault Refusal := runRound mixI 0x6fa87e4f 8 6 s

/-- R257 -/
def execRound57 (s : State) : Host.Outcome State Fault Refusal := runRound mixI 0xfe2ce6e0 15 10 s

/-- R258 -/
def execRound58 (s : State) : Host.Outcome State Fault Refusal := runRound mixI 0xa3014314 6 15 s

/-- R259 -/
def execRound59 (s : State) : Host.Outcome State Fault Refusal := runRound mixI 0x4e0811a1 13 21 s

/-- R260 -/
def execRound60 (s : State) : Host.Outcome State Fault Refusal := runRound mixI 0xf7537e82 4 6 s

/-- R261 -/
def execRound61 (s : State) : Host.Outcome State Fault Refusal := runRound mixI 0xbd3af235 11 10 s

/-- R262 -/
def execRound62 (s : State) : Host.Outcome State Fault Refusal := runRound mixI 0x2ad7d2bb 2 15 s

/-- R263 -/
def execRound63 (s : State) : Host.Outcome State Fault Refusal := runRound mixI 0xeb86d391 9 21 s

end Sys2Proof.Machine
end

