-- ==== Sys2Proof/Machine/Dispatch.lean ====
section
/-! DEFINITION. One arm per row of the opcode table. -/

namespace Sys2Proof.Machine

open Sys2Proof

def exec (i : Instr) (s : State) : Host.Outcome State Fault Refusal :=
  match i with
  | .init data => Sys2Proof.Machine.execInit data s
  | .update data => Sys2Proof.Machine.execUpdate data s
  | .final data => Sys2Proof.Machine.execFinal data s
  | .reserved data => Sys2Proof.Machine.execReserved data s
  | .round0 => Sys2Proof.Machine.execRound0 s
  | .round1 => Sys2Proof.Machine.execRound1 s
  | .round2 => Sys2Proof.Machine.execRound2 s
  | .round3 => Sys2Proof.Machine.execRound3 s
  | .round4 => Sys2Proof.Machine.execRound4 s
  | .round5 => Sys2Proof.Machine.execRound5 s
  | .round6 => Sys2Proof.Machine.execRound6 s
  | .round7 => Sys2Proof.Machine.execRound7 s
  | .round8 => Sys2Proof.Machine.execRound8 s
  | .round9 => Sys2Proof.Machine.execRound9 s
  | .round10 => Sys2Proof.Machine.execRound10 s
  | .round11 => Sys2Proof.Machine.execRound11 s
  | .round12 => Sys2Proof.Machine.execRound12 s
  | .round13 => Sys2Proof.Machine.execRound13 s
  | .round14 => Sys2Proof.Machine.execRound14 s
  | .round15 => Sys2Proof.Machine.execRound15 s
  | .round16 => Sys2Proof.Machine.execRound16 s
  | .round17 => Sys2Proof.Machine.execRound17 s
  | .round18 => Sys2Proof.Machine.execRound18 s
  | .round19 => Sys2Proof.Machine.execRound19 s
  | .round20 => Sys2Proof.Machine.execRound20 s
  | .round21 => Sys2Proof.Machine.execRound21 s
  | .round22 => Sys2Proof.Machine.execRound22 s
  | .round23 => Sys2Proof.Machine.execRound23 s
  | .round24 => Sys2Proof.Machine.execRound24 s
  | .round25 => Sys2Proof.Machine.execRound25 s
  | .round26 => Sys2Proof.Machine.execRound26 s
  | .round27 => Sys2Proof.Machine.execRound27 s
  | .round28 => Sys2Proof.Machine.execRound28 s
  | .round29 => Sys2Proof.Machine.execRound29 s
  | .round30 => Sys2Proof.Machine.execRound30 s
  | .round31 => Sys2Proof.Machine.execRound31 s
  | .round32 => Sys2Proof.Machine.execRound32 s
  | .round33 => Sys2Proof.Machine.execRound33 s
  | .round34 => Sys2Proof.Machine.execRound34 s
  | .round35 => Sys2Proof.Machine.execRound35 s
  | .round36 => Sys2Proof.Machine.execRound36 s
  | .round37 => Sys2Proof.Machine.execRound37 s
  | .round38 => Sys2Proof.Machine.execRound38 s
  | .round39 => Sys2Proof.Machine.execRound39 s
  | .round40 => Sys2Proof.Machine.execRound40 s
  | .round41 => Sys2Proof.Machine.execRound41 s
  | .round42 => Sys2Proof.Machine.execRound42 s
  | .round43 => Sys2Proof.Machine.execRound43 s
  | .round44 => Sys2Proof.Machine.execRound44 s
  | .round45 => Sys2Proof.Machine.execRound45 s
  | .round46 => Sys2Proof.Machine.execRound46 s
  | .round47 => Sys2Proof.Machine.execRound47 s
  | .round48 => Sys2Proof.Machine.execRound48 s
  | .round49 => Sys2Proof.Machine.execRound49 s
  | .round50 => Sys2Proof.Machine.execRound50 s
  | .round51 => Sys2Proof.Machine.execRound51 s
  | .round52 => Sys2Proof.Machine.execRound52 s
  | .round53 => Sys2Proof.Machine.execRound53 s
  | .round54 => Sys2Proof.Machine.execRound54 s
  | .round55 => Sys2Proof.Machine.execRound55 s
  | .round56 => Sys2Proof.Machine.execRound56 s
  | .round57 => Sys2Proof.Machine.execRound57 s
  | .round58 => Sys2Proof.Machine.execRound58 s
  | .round59 => Sys2Proof.Machine.execRound59 s
  | .round60 => Sys2Proof.Machine.execRound60 s
  | .round61 => Sys2Proof.Machine.execRound61 s
  | .round62 => Sys2Proof.Machine.execRound62 s
  | .round63 => Sys2Proof.Machine.execRound63 s

end Sys2Proof.Machine
end

