-- ==== Sys2Proof/Machine/Execute.lean ====
section
/-! DEFINITION. One host step: the RESET event, one presented word, or one read. -/

namespace Sys2Proof.Machine

open Sys2Proof

/-- R290: a presented word is decoded and executed; a word the decoder rejects is an illegal command. -/
def execWord (w : PortWord) (s : State) : Host.Outcome State Fault Refusal :=
  match decode w with
  | .ok i => exec i s
  | .error _ => .next (rejectWord s)

/-- R80, R339: what the host does. RESET drops the word presented together with it (R327). -/
def perform (x : HostStep) (s : State) : Host.Outcome State Fault Refusal :=
  match x with
  | .reset _ => .next (resetEvent s)
  | .present w => execWord w s
  | .readStatus => .next (readStatus s)
  | .readDigest => .next (readDigest s)
  | .readHex => .next (readHex s)

/-- The state with one more host step, to be taken before the others. -/
def State.withHostStep (s : State) (x : HostStep) : State := s.setPending (x :: s.pending)

/-- The state that `o` goes on to, none where it stops. -/
def nextOf (o : Host.Outcome State Fault Refusal) : Option State :=
  match o with
  | .next t => some t
  | .fault _ => none
  | .refused _ => none

end Sys2Proof.Machine
end

