-- ==== Sys2Proof/Machine/Step.lean ====
section
/-! DEFINITION. One step of the machine: the next host step, taken whole (R63, R67). -/

namespace Sys2Proof.Machine

open Sys2Proof

/-- R67: host steps take effect one at a time, in the order the host issues them. With none presented the engine does
nothing (log entry 4). -/
def step (s : State) : Host.Outcome State Fault Refusal :=
  match s.pending with
  | [] => .next s
  | x :: rest => perform x (s.setPending rest)

/-- The state in which the very next step runs the instruction of the table word `w` (log entries 4, 8). -/
def State.withFetchWord (s : State) (nbits w : Nat) : State := s.withHostStep (.present (tablePort nbits w))

end Sys2Proof.Machine
end

