-- ==== Sys2Proof/Machine/Assembly.lean ====
section
/-! DEFINITION. The textual operation lines of R105 and the host step each stands for. -/

namespace Sys2Proof.Machine

open Sys2Proof

/-- R105: one operation a line. -/
inductive Line where
  | reset
  | init
  | update (byte : Byte)
  | updateChar (c : Char)
  | final
  | word (cw : BitVec 10)
deriving DecidableEq, Repr

/-- R85, R106: the bytes of a text, "encoded as UTF-8 bytes". -/
def textBytes (t : List Char) : List Byte := t.flatMap fun c => (String.utf8EncodeChar c).map UInt8.toBitVec

/-- R105: the command word of a line, none for RESET, which is an event. 'c' is the ASCII code of a printable
character. -/
def Line.commandWord (l : Line) : Option (BitVec 10) :=
  match l with
  | .reset => none
  | .init => some 0x000
  | .update b => some (0x100 + b.zeroExtend 10)
  | .updateChar c => some (0x100 + (BitVec.ofNat 8 c.toNat).zeroExtend 10)
  | .final => some 0x200
  | .word cw => some cw

/-- What the host does for a line. -/
def Line.hostStep (l : Line) : HostStep :=
  match l.commandWord with
  | none => .reset none
  | some cw => .present (.command cw)

end Sys2Proof.Machine
end

