-- ==== Sys2Proof/Machine/Instances.lean ====
section
/-! DEFINITION. Any number NI ≥ 1 of engine instances: the product of NI copies of the machine (R7, R338, D19). -/

namespace Sys2Proof.Machine

open Sys2Proof

/-- NI instances, each with its own complete state (R338). -/
abbrev Instances (ni : Nat) := Vector State ni

/-- Instance `k` takes one step. -/
def stepInstance (k : Fin ni) (v : Instances ni) : Host.Outcome (Instances ni) Fault Refusal :=
  match step v[k] with
  | .next t => .next (v.set k.val t)
  | .fault r => .fault r
  | .refused r => .refused r

/-- R338: "any interleaving of their steps": the instances step in the order `schedule` names them. -/
def runSchedule (schedule : List (Fin ni)) (v : Instances ni) : Host.Outcome (Instances ni) Fault Refusal :=
  match schedule with
  | [] => .next v
  | k :: rest =>
    match stepInstance k v with
    | .next u => runSchedule rest u
    | .fault r => .fault r
    | .refused r => .refused r

end Sys2Proof.Machine
end

