-- ==== Sys2Proof/Safety.lean ====
section
/-! DEFINITION. What counts as a safe run, and the invariants claims are stated with. -/

namespace Sys2Proof.Machine

open Sys2Proof

/-- R326: a state with ERR = 1 is a faulted state, never one a claim may speak about. -/
def State.safe (s : State) : Bool := !s.err

/-- R29: ERRCODE = 0 exactly when ERR = 0. -/
abbrev ErrCodeAgrees (s : State) : Prop := s.errCode = .noFault ↔ s.err = false

/-- R38: what holds while ERR = 0 and PHASE = ABSORB, `m` the bytes accepted since the last INIT or RESET. -/
structure Absorbing (s : State) (m : List Byte) : Prop where
  err : s.err = false
  phase : s.phase = .absorb
  len : s.len = BitVec.ofNat 64 m.length
  h : s.h = fold iv (m.take (64 * (m.length / 64)))
  buf : ∀ (j : Nat) (_ : j < m.length % 64), s.buf[j] = m.getD (64 * (m.length / 64) + j) 0

/-- R39: what holds while ERR = 0 and PHASE = DONE, `m` the message that was finished. -/
structure Finished (s : State) (m : List Byte) : Prop where
  err : s.err = false
  phase : s.phase = .done
  len : s.len = BitVec.ofNat 64 m.length
  h : s.h = fold iv (pad m)

/-- R29, R38, R39 together: the error code tells whether there is an error, and an engine without one is absorbing or
has finished some message. -/
structure Inv (s : State) : Prop where
  code : ErrCodeAgrees s
  tracks : s.err = false → ∃ m, Absorbing s m ∨ Finished s m

/-- Two states no host can tell apart: equal but for the working registers, for H while ERR = 1, and for the bytes of
BUF that no rule reads (R25, R34, U1). -/
structure SameToHost (s t : State) : Prop where
  len : s.len = t.len
  phase : s.phase = t.phase
  err : s.err = t.err
  errCode : s.errCode = t.errCode
  pending : s.pending = t.pending
  seen : s.seen = t.seen
  freeReads : s.freeReads = t.freeReads
  h : s.err = false → s.h = t.h
  buf : s.err = false → s.phase = .absorb → ∀ (j : Nat) (_ : j < 64), j < s.fill.val → s.buf[j] = t.buf[j]

end Sys2Proof.Machine
end

