-- ==== Sys2Proof/Certificates/Slice0/Obligations.lean ====
section
/-! DEFINITION. The statements for the provers. Each docstring names the rules of spec/ it formalises. "The model's own
fields" are `work`, `pending`, `seen` and `freeReads` (log entries 1, 2, 4, 5, 6); that a CMD row leaves `work` as it is
is log entry 7. -/

open Sys2Proof Sys2Proof.Machine

namespace Sys2Proof.Statements

/-- The state `s` after `raise Fault(code)` and nothing else (R324). -/
abbrev faulted (s : State) (c : ErrCode) : State := { s with err := true, errCode := c }

/-- The block of the empty message: M[0] = 0x00000080, M[1..15] = 0 (R124, the example block of R200 to R263). -/
def emptyBlock : Block := (Vector.replicate 64 0).set 0 0x80

/-- One row of the listing: the selector `sel` decodes to `i` and has the fields `pass` and `step`; for every block and
every working registers the round is the row's update; and the row's worked example comes out (input `inp`, mixing value
`mv`, message word `mw`, `temp`, output `out`). -/
def RoundListed (sel : BitVec 6) (i : Instr) (pass : Fin 4) (pos : Fin 16) (mix : Word → Word → Word → Word) (k : Word)
    (j : Fin 16) (r : Nat) (inp : Regs) (mv mw temp : Word) (out : Regs) : Prop :=
  decode (.selector sel) = .ok i ∧ passOf sel = pass ∧ stepOf sel = pos ∧
  (∀ (blk : Block) (a b c d : Word), round sel blk #v[a, b, c, d] =
    #v[d, b + rotl32 (a + mix b c d + k + blockWord blk j) r, b, c]) ∧
  mix inp[1] inp[2] inp[3] = mv ∧ blockWord emptyBlock j = mw ∧ round sel emptyBlock inp = out ∧ out[1] = temp

/-- Each instruction of `rows` answers the state with `work` after the round of its selector over BUF. -/
def RoundRowsRun (rows : List (Instr × BitVec 6)) : Prop :=
  ∀ p ∈ rows, ∀ s : State, exec p.1 s = .next { s with work := round p.2 s.buf s.work }

/-- The words of an ASCII text, one byte a character. -/
def ascii (t : String) : List Byte := t.toList.map fun c => BitVec.ofNat 8 c.toNat

/-- R174: four rounds 4q .. 4q+3 written without moving the values: they update a, d, c, b in turn, with the other
three as (x, y, z) in the orders (b,c,d), (a,b,c), (d,a,b), (c,d,a). -/
def fourRoundsInPlace (q : Nat) (blk : Block) (w : Regs) : Regs :=
  let i (n : Nat) : BitVec 6 := BitVec.ofNat 6 (4 * q + n)
  let upd (n : Nat) (x y z v : Word) : Word :=
    x + rotl32 (v + mixOf (passOf (i n)) x y z + kConst (i n) + blockWord blk (wordIndex (i n))) (rotation (i n))
  let a := upd 0 w[1] w[2] w[3] w[0]
  let d := upd 1 a w[1] w[2] w[3]
  let c := upd 2 d a w[1] w[2]
  let b := upd 3 c d a w[1]
  #v[a, b, c, d]

/-- The commands of a sequence of legal command words (R82, R84). -/
inductive Op where
  | init
  | update (b : Byte)
  | final

/-- The host step that presents a legal command word. -/
def Op.hostStep (o : Op) : HostStep :=
  match o with
  | .init => .present (.command 0x000)
  | .update b => .present (.command (0x100 + b.zeroExtend 10))
  | .final => .present (.command 0x200)

/-- R329: some FINAL is followed, with no INIT between, by an UPDATE or a FINAL. -/
def ReusedAfterFinal (ops : List Op) : Prop :=
  ∃ xs ys zs : List Op, ∃ o : Op, ops = xs ++ .final :: ys ++ o :: zs ∧ (∀ y ∈ ys, y ≠ .init) ∧ o ≠ .init

end Sys2Proof.Statements

open Sys2Proof.Statements

/-! ## Encodings -/

/-- R82, R84, R100: words of each format, written out, and what they decode to. -/
def Obligations.WrittenWordsDecode : Prop :=
  decode (.command 0b0000000000) = .ok (.init 0) ∧
  decode (.command 0b0101100001) = .ok (.update 0x61) ∧
  decode (.command 0b0111111111) = .ok (.update 0xff) ∧
  decode (.command 0b1000000000) = .ok (.final 0) ∧
  decode (.command 0b1100000000) = .ok (.reserved 0) ∧
  decode (.command 0b0000000001) = .error (.initData 1) ∧
  decode (.command 0b1011111111) = .error (.finalData 0xff) ∧
  decode (.selector 0b000000) = .ok .round0 ∧
  decode (.selector 0b010101) = .ok .round21 ∧
  decode (.selector 0b101010) = .ok .round42 ∧
  decode (.selector 0b111111) = .ok .round63

/-- Every well-formed instruction of every row decodes from its own word, its data field at every value. -/
def Obligations.DecodeInvertsEncode : Prop := ∀ i : Instr, i.wf = true → decode (encode i) = .ok i

/-- A word of either map that decodes is the word of the instruction it decodes to, and that instruction is well
formed: no two words share an instruction. -/
def Obligations.DecodedWordIsEncoding : Prop :=
  ∀ (w : PortWord) (i : Instr), decode w = .ok i → encode i = w ∧ i.wf = true

/-- R82, R83: each operation is recognised by its match and mask, UPDATE's operand is CW[7:0] as it stands, and what no
pattern holds is the two sets with op 0b00 or 0b10 and data other than 0. -/
def Obligations.CommandsMatchMasks : Prop :=
  ∀ cw : BitVec 10,
    (decodeCommand cw = .ok (.init 0) ↔ cw &&& 0x3ff = 0x000) ∧
    (decodeCommand cw = .ok (.update (cw.extractLsb' 0 8)) ↔ cw &&& 0x300 = 0x100) ∧
    (decodeCommand cw = .ok (.final 0) ↔ cw &&& 0x3ff = 0x200) ∧
    (decodeCommand cw = .ok (.reserved (cw.extractLsb' 0 8)) ↔ cw &&& 0x300 = 0x300) ∧
    ((∃ e, decodeCommand cw = .error e) ↔
      (cw.extractLsb' 8 2 = 0b00 ∨ cw.extractLsb' 8 2 = 0b10) ∧ cw.extractLsb' 0 8 ≠ 0)

/-- R84: the illegal words are 0x300..0x3ff, 0x001..0x0ff and 0x201..0x2ff, 766 of the 1024; they are the words that
decode to no operation; and presenting one raises Fault(ILLEGAL_COMMAND) and does nothing else. -/
def Obligations.IllegalWordsFault : Prop :=
  (∀ cw : BitVec 10, illegalWord cw = true ↔
    0x300 ≤ cw.toNat ∨ (0x001 ≤ cw.toNat ∧ cw.toNat ≤ 0x0ff) ∨ (0x201 ≤ cw.toNat ∧ cw.toNat ≤ 0x2ff)) ∧
  ((List.range 1024).countP fun n => illegalWord (BitVec.ofNat 10 n)) = 766 ∧
  (∀ cw : BitVec 10, illegalWord cw = true ↔
    (∃ e, decodeCommand cw = .error e) ∨ ∃ data, decodeCommand cw = .ok (.reserved data)) ∧
  (∀ (s : State) (cw : BitVec 10), s.err = false → illegalWord cw = true →
    execWord (.command cw) s = .next (faulted s .illegalCommand))

/-- The textual lines stand for the words the table of R105 gives, RESET for the event. R105 gives UPDATE with a character
for a printable ASCII character only; that any other character stands for the low eight bits of its code is the model's
choice (log entry 17). -/
def Obligations.TextLinesStandForWords : Prop :=
  Line.hostStep .reset = .reset none ∧
  Line.hostStep .init = presentInstr (.init 0) ∧
  (∀ b, Line.hostStep (.update b) = presentInstr (.update b)) ∧
  (∀ c : Char, Line.hostStep (.updateChar c) = presentInstr (.update (BitVec.ofNat 8 c.toNat))) ∧
  Line.hostStep .final = presentInstr (.final 0) ∧
  (∀ cw, Line.hostStep (.word cw) = .present (.command cw))

/-! ## One step -/

/-- A step on a presented word that decodes to `i` is `exec i` at the state without that host step. (That the word stands
at the head of the list `pending` is the model's own convention, log entry 4.) -/
def Obligations.StepRunsPresentedInstr : Prop :=
  ∀ (s : State) (w : PortWord) (rest : List HostStep) (i : Instr),
    s.pending = .present w :: rest → decode w = .ok i → step s = exec i { s with pending := rest }

/-- R302: every operation finishes; no state makes a step stop. -/
def Obligations.EveryStepAnswersNext : Prop := ∀ s : State, ∃ t, step s = .next t

/-- R290: the order of the checks: ERR, then an illegal word, then the operation by CW[9:8]. -/
def Obligations.CommandChecksInOrder : Prop :=
  ∀ (s : State) (cw : BitVec 10),
    (s.err = true → execWord (.command cw) s = .next s) ∧
    (s.err = false → illegalWord cw = true → execWord (.command cw) s = .next (faulted s .illegalCommand)) ∧
    (s.err = false → illegalWord cw = false →
      (cw.extractLsb' 8 2 = 0b00 → execWord (.command cw) s = exec (.init 0) s) ∧
      (cw.extractLsb' 8 2 = 0b01 → execWord (.command cw) s = exec (.update (cw.extractLsb' 0 8)) s) ∧
      (cw.extractLsb' 8 2 = 0b10 → execWord (.command cw) s = exec (.final 0) s))

/-! ## The operations -/

/-- INIT writes H, LEN and PHASE and no other element of R20, in either phase, and right after RESET changes nothing (R291).
That `work` stays is log entry 7. The second clause is about the term INIT with non-zero data, which no word decodes to:
that it raises ILLEGAL_COMMAND, as its rejected word does (R84, R290), is the model's reading (log entry 15). -/
def Obligations.InitStartsMessage : Prop :=
  (∀ s : State, s.err = false → exec (.init 0) s =
    .next { s with h := #v[0x67452301, 0xefcdab89, 0x98badcfe, 0x10325476], len := 0, phase := .absorb }) ∧
  (∀ (s : State) (data : Byte), s.err = false → data ≠ 0 → exec (.init data) s = .next (faulted s .illegalCommand)) ∧
  (∀ s : State, exec (.init 0) (resetEvent s) = .next (resetEvent s))

/-- UPDATE in phase ABSORB writes its byte at offset LEN[5:0] and adds 1 to LEN modulo 2^64, and the byte at offset
63 also folds the whole of BUF, this byte included; in phase DONE it raises UPDATE_WHEN_DONE; no other
element of R20 changes (R292). That `work` stays as it is, over a compression too, is the model's reading (log entry 7). -/
def Obligations.UpdateAppendsByte : Prop :=
  (∀ (s : State) (data : Byte) (n : Nat) (hn : n < 64), s.err = false → s.phase = .absorb →
    n = s.len.toNat % 64 → n ≠ 63 →
    exec (.update data) s = .next { s with buf := s.buf.set n data, len := BitVec.ofNat 64 (s.len.toNat + 1) }) ∧
  (∀ (s : State) (data : Byte), s.err = false → s.phase = .absorb → s.len.toNat % 64 = 63 →
    exec (.update data) s = .next { s with
      buf := s.buf.set 63 data, len := BitVec.ofNat 64 (s.len.toNat + 1), h := compress s.h (s.buf.set 63 data) }) ∧
  (∀ (s : State) (data : Byte), s.err = false → s.phase = .done →
    exec (.update data) s = .next (faulted s .updateWhenDone))

/-- R293: FINAL in phase ABSORB, n = LEN[5:0]. With n ≤ 55 it folds one block: the n buffered bytes, 0x80, zeros, and at
56..63 the little-endian bytes of 8·LEN mod 2^64. With n ≥ 56 it folds two: the buffered bytes, 0x80 and zeros, then
56 zeros and the length. BUF is left with the last block and PHASE is DONE; LEN and the rest are unchanged. In phase DONE
it raises FINAL_WHEN_DONE. The fourth clause is not of R293: that a term FINAL with non-zero data, which no word decodes
to, raises ILLEGAL_COMMAND as its rejected word does (R84, R290), is the model's reading (log entry 15). That `work` stays
as it is over the compressions is log entry 7. -/
def Obligations.FinalPadsAndFolds : Prop :=
  (∀ (s : State) (blk : Block), s.err = false → s.phase = .absorb → s.len.toNat % 64 ≤ 55 →
    (∀ (j : Nat) (_ : j < 64), blk[j] =
      if j < s.len.toNat % 64 then s.buf[j] else if j = s.len.toNat % 64 then 0x80 else if j < 56 then 0
      else BitVec.ofNat 8 (8 * s.len.toNat % 2 ^ 64 / 2 ^ (8 * (j - 56)))) →
    exec (.final 0) s = .next { s with h := compress s.h blk, buf := blk, phase := .done }) ∧
  (∀ (s : State) (blk₁ blk₂ : Block), s.err = false → s.phase = .absorb → 56 ≤ s.len.toNat % 64 →
    (∀ (j : Nat) (_ : j < 64), blk₁[j] =
      if j < s.len.toNat % 64 then s.buf[j] else if j = s.len.toNat % 64 then 0x80 else 0) →
    (∀ (j : Nat) (_ : j < 64), blk₂[j] =
      if j < 56 then 0 else BitVec.ofNat 8 (8 * s.len.toNat % 2 ^ 64 / 2 ^ (8 * (j - 56)))) →
    exec (.final 0) s = .next { s with h := compress (compress s.h blk₁) blk₂, buf := blk₂, phase := .done }) ∧
  (∀ s : State, s.err = false → s.phase = .done → exec (.final 0) s = .next (faulted s .finalWhenDone)) ∧
  (∀ (s : State) (data : Byte), s.err = false → data ≠ 0 → exec (.final data) s = .next (faulted s .illegalCommand))

/-- R84: a word of the reserved row, any data field, raises ILLEGAL_COMMAND: that is all it does. -/
def Obligations.ReservedRowRaises : Prop :=
  ∀ (s : State) (data : Byte), s.err = false → exec (.reserved data) s = .next (faulted s .illegalCommand)

/-- The frame of the CMD rows, from every state: UPDATE stores at most to offset FILL; INIT and RESERVED store to no byte
of BUF; FINAL with FILL ≤ 55 keeps the bytes below FILL; UPDATE and FINAL keep the phase or LEN as said. That none of
them touches the model's own fields is the model's: `work` is log entry 7 (no rule gives it a value after a compression),
`pending`, `seen` and `freeReads` are log entries 4, 5, 6. INIT and FINAL are meant at every data field, the ill-formed
terms included (log entry 15). -/
def Obligations.CommandRowsFrame : Prop :=
  (∀ (s t : State) (data : Byte), exec (.init data) s = .next t → t.buf = s.buf ∧
    t.work = s.work ∧ t.pending = s.pending ∧ t.seen = s.seen ∧ t.freeReads = s.freeReads) ∧
  (∀ (s t : State) (data : Byte), exec (.update data) s = .next t →
    (∀ (j : Nat) (_ : j < 64), j ≠ s.fill.val → t.buf[j] = s.buf[j]) ∧ t.phase = s.phase ∧
    t.work = s.work ∧ t.pending = s.pending ∧ t.seen = s.seen ∧ t.freeReads = s.freeReads) ∧
  (∀ (s t : State) (data : Byte), exec (.final data) s = .next t →
    (s.fill.val ≤ 55 → ∀ (j : Nat) (_ : j < 64), j < s.fill.val → t.buf[j] = s.buf[j]) ∧ t.len = s.len ∧
    t.work = s.work ∧ t.pending = s.pending ∧ t.seen = s.seen ∧ t.freeReads = s.freeReads) ∧
  (∀ (s t : State) (data : Byte), exec (.reserved data) s = .next t → t.h = s.h ∧ t.buf = s.buf ∧ t.len = s.len ∧
    t.phase = s.phase ∧ t.work = s.work ∧ t.pending = s.pending ∧ t.seen = s.seen ∧ t.freeReads = s.freeReads)

/-! ## Faults and reset -/

/-- R324: a command that raises a fault changes ERR and ERRCODE only, so a state with ERR = 1 after a command from ERR = 0
is the state before it with the two written; and ERRCODE is not 0 then. -/
def Obligations.FaultsArePrecise : Prop :=
  ∀ (s t : State) (cw : BitVec 10), s.err = false → execWord (.command cw) s = .next t → t.err = true →
    t = faulted s t.errCode ∧ t.errCode ≠ .noFault

/-- R321: exactly when a command faults from ERR = 0, and with which code. -/
def Obligations.FaultCauses : Prop :=
  ∀ (s : State) (cw : BitVec 10), s.err = false →
    ∃ t, execWord (.command cw) s = .next t ∧
      (t.errCode.bits = 3 ∧ t.err = true ↔ illegalWord cw = true) ∧
      (s.errCode = .noFault → illegalWord cw = false →
        (t.errCode.bits = 1 ∧ t.err = true ↔ cw = 0x200 ∧ s.phase = .done) ∧
        (t.errCode.bits = 2 ∧ t.err = true ↔ cw.extractLsb' 8 2 = 0b01 ∧ s.phase = .done) ∧
        (t.errCode.bits = 0 ∧ t.err = false ↔ ¬ (cw.extractLsb' 8 2 ≠ 0b00 ∧ s.phase = .done)))

/-- With ERR = 1 whatever is done, but for the RESET event, keeps ERR, ERRCODE, H, BUF, LEN and PHASE: every command word,
legal or illegal (R326), and every read; RESET clears ERR and ERRCODE (R328). The same of a selector presented by itself is
the model's choice: that it can be presented is log entry 1, and that it runs while ERR = 1, on `work` alone, is log entry
16. -/
def Obligations.OnlyResetLeavesFault : Prop :=
  (∀ (s t : State) (x : HostStep), s.err = true → (∀ dropped, x ≠ .reset dropped) → perform x s = .next t →
    t.err = true ∧ t.errCode = s.errCode ∧ t.h = s.h ∧ t.buf = s.buf ∧ t.len = s.len ∧ t.phase = s.phase) ∧
  ∀ (s : State) (dropped : Option (BitVec 10)), s.err = true →
    ∃ t, perform (.reset dropped) s = .next t ∧ t.err = false ∧ t.errCode = .noFault

/-- R350, R40, R327: the RESET event, from any state, with or without a command word presented together with it: H, LEN,
PHASE, ERR, ERRCODE take the rule's values and STATUS reads 0x00. (What the host has still to do and has read stays: the
model's choice, log entry 10. BUF's value after RESET is the model's choice, log entry 3, and not stated.) -/
def Obligations.ResetSetsRuleValues : Prop :=
  ∀ (s : State) (dropped : Option (BitVec 10)) (rest : List HostStep), s.pending = .reset dropped :: rest →
    ∃ t, step s = .next t ∧ t.h = #v[0x67452301, 0xefcdab89, 0x98badcfe, 0x10325476] ∧ t.len = 0 ∧ t.phase = .absorb ∧
      t.err = false ∧ t.errCode = .noFault ∧ t.status = 0x00 ∧ t.valid = false ∧ t.pending = rest ∧ t.seen = s.seen

/-- R40: the values the spec gives for the state after RESET. -/
def Obligations.ResetStateAsGiven : Prop :=
  State.reset.h = #v[0x67452301, 0xefcdab89, 0x98badcfe, 0x10325476] ∧ State.reset.len = 0 ∧
  State.reset.phase = .absorb ∧ State.reset.err = false ∧ State.reset.errCode = .noFault ∧ State.reset.status = 0x00

/-- R351: from ERR = 0 with ERRCODE = 0, RESET and INIT have the same effect on H, LEN, PHASE, ERR and ERRCODE; from
ERR = 1 INIT changes nothing and RESET clears. -/
def Obligations.ResetAndInitCompared : Prop :=
  ∀ s : State,
    (s.err = false → s.errCode = .noFault → ∃ t, exec (.init 0) s = .next t ∧ t.h = (resetEvent s).h ∧
      t.len = (resetEvent s).len ∧ t.phase = (resetEvent s).phase ∧ t.err = (resetEvent s).err ∧
      t.errCode = (resetEvent s).errCode) ∧
    (s.err = true → exec (.init 0) s = .next s ∧ (resetEvent s).err = false ∧ (resetEvent s).errCode = .noFault)

/-- R329: a sequence of legal command words presented from ERR = 0 in phase ABSORB faults if and only if some FINAL is
followed, with no INIT between, by an UPDATE or a FINAL. (The rule's sentence names ERR = 0 only; from phase DONE the
first UPDATE or FINAL faults, so the phase is a premise here, log entry 18. The list
`pending` is the model's own, log entry 4.) -/
def Obligations.FaultsOnlyByReuseAfterFinal : Prop :=
  ∀ (s : State) (ops : List Op), s.err = false → s.phase = .absorb → s.pending = ops.map Op.hostStep →
    ∃ t, Host.Core.run core ops.length s = .next t ∧ t.pending = [] ∧ (t.err = true ↔ ReusedAfterFinal ops)

/-! ## Status and outputs -/

/-- R31, R33: the fields of STATUS, and VALID. -/
def Obligations.StatusLayout : Prop :=
  ∀ s : State,
    (s.status.extractLsb' 0 1 = 1 ↔ s.phase = .done) ∧
    (s.status.extractLsb' 1 1 = 1 ↔ s.err = true) ∧
    (s.status.extractLsb' 2 2 = 0 ↔ s.errCode = .noFault) ∧ (s.status.extractLsb' 2 2 = 1 ↔ s.errCode = .finalWhenDone) ∧
    (s.status.extractLsb' 2 2 = 2 ↔ s.errCode = .updateWhenDone) ∧
    (s.status.extractLsb' 2 2 = 3 ↔ s.errCode = .illegalCommand) ∧
    s.status.extractLsb' 4 4 = 0 ∧ (s.valid = true ↔ s.phase = .done ∧ s.err = false)

/-- R64: a host read of any output changes no element of R20, and adds one reading to what the host has
seen. (The record of readings is the model's own, log entry 5.) -/
def Obligations.ReadsHaveNoSideEffect : Prop :=
  ∀ (s : State) (x : HostStep) (rest : List HostStep), x = .readStatus ∨ x = .readDigest ∨ x = .readHex →
    s.pending = x :: rest → ∃ t r, step s = .next t ∧ t.h = s.h ∧ t.buf = s.buf ∧ t.len = s.len ∧ t.phase = s.phase ∧
      t.err = s.err ∧ t.errCode = s.errCode ∧ t.pending = rest ∧ t.seen = s.seen ++ [r]

/-- R31, R270, R271, R273: what a read returns: STATUS always; DIGEST and HEX when VALID = 1 the serialization of H and
its hexadecimal form. (The record of readings is the model's own, log entry 5.) -/
def Obligations.ReadsReturnOutputs : Prop :=
  ∀ s : State,
    perform .readStatus s = .next { s with seen := s.seen ++ [.status s.status] } ∧
    (s.valid = true → perform .readDigest s = .next { s with seen := s.seen ++ [.digest (serialize s.h)] }) ∧
    (s.valid = true → perform .readHex s = .next { s with seen := s.seen ++ [.hex (hex (serialize s.h))] })

/-- U2, R271: while VALID = 0 a read of DIGEST or HEX tells nothing of H, BUF or the working registers: changing them
changes no reading. (The reading is a free value that the counter alone picks, log entries 6, 19.) -/
def Obligations.InvalidReadsHideState : Prop :=
  ∀ (s : State) (h' w' : Regs) (buf' : Block) (x : HostStep), s.valid = false → x = .readDigest ∨ x = .readHex →
    ∃ t, perform x s = .next t ∧
      perform x { s with h := h', buf := buf', work := w' } = .next { t with h := h', buf := buf', work := w' }

/-! ## The message invariant -/

/-- R38: INIT and RESET leave an engine that has absorbed the empty message. -/
def Obligations.StartAbsorbsNothing : Prop :=
  (∀ s : State, s.err = false → ∃ t, exec (.init 0) s = .next t ∧ Absorbing t []) ∧
  (∀ s : State, Absorbing (resetEvent s) [])

/-- R38: an UPDATE appends its byte to the message absorbed, at every length, block boundaries included. -/
def Obligations.UpdateExtendsMessage : Prop :=
  ∀ (s : State) (m : List Byte) (data : Byte), Absorbing s m →
    ∃ t, exec (.update data) s = .next t ∧ Absorbing t (m ++ [data])

/-- R39, R293: FINAL finishes the message absorbed: H = Fold(IV, Pad(m)), and BUF is left holding the last padded
block. -/
def Obligations.FinalFinishesMessage : Prop :=
  ∀ (s : State) (m : List Byte), Absorbing s m →
    ∃ t, exec (.final 0) s = .next t ∧ Finished t m ∧ (blocks (pad m)).getLast? = some t.buf

/-- R29, R38, R39: every step, whatever the host does, keeps the invariant: ERRCODE = 0 exactly when ERR = 0, and an
engine with ERR = 0 is absorbing some message or has finished one. -/
def Obligations.EveryStepKeepsInvariant : Prop := ∀ s t : State, Inv s → step s = .next t → Inv t

/-- The invariant holds right after reset. -/
def Obligations.ResetHasInvariant : Prop := Inv State.reset

/-- R298, R294, R129: from any state with ERR = 0, whatever it held before, INIT, the message in any chunks, FINAL and a
read of HEX give MD5 of the message, with VALID = 1, and DIGEST is the serialization of Fold(IV, Pad(m)). (The counts of
steps and the lists `pending` and `seen` are the model's own, log entries 4, 5.) -/
def Obligations.StreamedDigestIsMd5 : Prop :=
  ∀ (s : State) (chunks : List (List Byte)) (rest : List HostStep), s.err = false →
    s.pending = presentInstr (.init 0) :: chunks.flatMap updates ++ finalize ++ rest →
    ∃ t, Host.Core.run core (chunks.flatten.length + 3) s = .next t ∧ t.err = false ∧ t.phase = .done ∧ t.valid = true ∧
      t.h = fold iv (pad chunks.flatten) ∧ t.seen = s.seen ++ [.hex (md5 chunks.flatten)] ∧ t.pending = rest

/-- R298: the same right after the RESET event without an INIT, from any state whatever, a faulted one included. (The
lists `pending` and `seen` are the model's own, log entries 4, 5.) -/
def Obligations.DigestAfterResetIsMd5 : Prop :=
  ∀ (s : State) (m : List Byte) (dropped : Option (BitVec 10)) (rest : List HostStep),
    s.pending = .reset dropped :: updates m ++ finalize ++ rest →
    ∃ t, Host.Core.run core (m.length + 3) s = .next t ∧ t.err = false ∧ t.valid = true ∧
      t.seen = s.seen ++ [.hex (md5 m)] ∧ t.pending = rest

/-- R25, R34, R299, U1: what the host sees never depends on stale bytes of BUF, on the working registers, or on what a
faulted engine holds: two states that agree elsewhere stay so under every step. (The lists
`pending` and `seen` are the model's own, log entries 4, 5; reads while VALID = 0 agree by log entries 6, 19.) -/
def Obligations.HiddenStateNeverReachesHost : Prop :=
  ∀ s t s' : State, SameToHost s t → step s = .next s' → ∃ t', step t = .next t' ∧ SameToHost s' t'

/-! ## The padder -/

/-- R131: the padded stream: a multiple of 64 bytes; the message first, unmodified; 0x80; the length field last; zero
bytes between. -/
def Obligations.PaddedStreamForm : Prop :=
  ∀ m : List Byte, (pad m).length % 64 = 0 ∧ (pad m).take m.length = m ∧ (pad m)[m.length]? = some 0x80 ∧
    (pad m).drop ((pad m).length - 8) = lengthField m.length ∧
    ∀ j, m.length < j → j < (pad m).length - 8 → (pad m)[j]? = some 0

/-- R121: the sizes, and the table of them by L mod 64. -/
def Obligations.PaddedSizes : Prop :=
  ∀ m : List Byte,
    (pad m).length = m.length + 1 + padZeros m.length + 8 ∧
    (pad m).length = 64 * ((m.length + 8) / 64 + 1) ∧ (blocks (pad m)).length = (m.length + 8) / 64 + 1 ∧
    9 ≤ 1 + padZeros m.length + 8 ∧ 1 + padZeros m.length + 8 ≤ 72 ∧
    (m.length % 64 ≤ 55 → padZeros m.length = 55 - m.length % 64 ∧ 1 + padZeros m.length + 8 = 64 - m.length % 64 ∧
      (m.length + 8) / 64 + 1 = m.length / 64 + 1) ∧
    (56 ≤ m.length % 64 → padZeros m.length = 119 - m.length % 64 ∧ 1 + padZeros m.length + 8 = 128 - m.length % 64 ∧
      (m.length + 8) / 64 + 1 = m.length / 64 + 2)

/-- R123: the blocks of a padded message: blocks k = 0 .. L div 64 - 1 are m[64k .. 64k+64), then one last block, or
two. -/
def Obligations.LastBlocksOfPad : Prop :=
  ∀ (m t : List Byte), t = m.drop (64 * (m.length / 64)) →
    (m.length % 64 ≤ 55 → blocks (pad m) = (List.range (m.length / 64)).map (blockAt m) ++
      [blockAt (t ++ [0x80] ++ List.replicate (55 - m.length % 64) 0 ++ lengthField m.length) 0]) ∧
    (56 ≤ m.length % 64 → blocks (pad m) = (List.range (m.length / 64)).map (blockAt m) ++
      [blockAt (t ++ [0x80] ++ List.replicate (63 - m.length % 64) 0) 0,
       blockAt (List.replicate 56 0 ++ lengthField m.length) 0])

/-- R124: the empty message is one block, M[0] = 0x00000080 and M[1..15] = 0. -/
def Obligations.EmptyMessageBlock : Prop :=
  pad [] = 0x80 :: List.replicate 63 0 ∧ blocks (pad []) = [emptyBlock] ∧
  ∀ j : Fin 16, blockWord emptyBlock j = if j = 0 then 0x00000080 else 0

/-- R126, R89: BITLEN is LEN shifted left by three with the top three bits dropped, 8·L mod 2^64 when LEN counts L
bytes; LF is its 8 bytes, least significant first; examples. -/
def Obligations.LengthFieldBytes : Prop :=
  (∀ L : Nat, bitLen (BitVec.ofNat 64 L) = BitVec.ofNat 64 (8 * L)) ∧
  (∀ L : Nat, (lengthField L).length = 8 ∧
    ∀ k, k < 8 → (lengthField L)[k]? = some (BitVec.ofNat 8 (8 * L % 2 ^ 64 / 2 ^ (8 * k)))) ∧
  lengthField 3 = [0x18, 0, 0, 0, 0, 0, 0, 0] ∧ lengthField (2 ^ 29) = [0, 0, 0, 0, 1, 0, 0, 0]

/-- R178: folding nothing gives the state back; the first block is compressed first and the rest folded after it; so
folding a sequence of whole blocks and then the rest is folding all of it. That this holds too where the rest has a
partial last block, which R178 does not take, is the model's choice (log entry 20). -/
def Obligations.FoldTakesBlocksInOrder : Prop :=
  (∀ h : Regs, fold h [] = h) ∧
  (∀ (h : Regs) (b p : List Byte), b.length = 64 → fold h (b ++ p) = fold (compress h (blockAt b 0)) p) ∧
  (∀ (h : Regs) (p q : List Byte), p.length % 64 = 0 → fold h (p ++ q) = fold (fold h p) q)

/-! ## Tables and the compression function -/

/-- R161: rotation of a word: the formula, where each bit goes, the number of 1 bits, rotation by 0, the amounts the
hardware uses, and the rule's examples. -/
def Obligations.RotationIsCircular : Prop :=
  (∀ (x : Word) (s : Nat), s ≤ 31 →
    (rotl32 x s).toNat = x.toNat * 2 ^ s % 2 ^ 32 + x.toNat / 2 ^ (32 - s) ∧
    (∀ k, k < 32 → (rotl32 x s).getLsbD ((k + s) % 32) = x.getLsbD k) ∧
    ((List.range 32).countP fun k => (rotl32 x s).getLsbD k) = (List.range 32).countP fun k => x.getLsbD k) ∧
  (∀ x : Word, rotl32 x 0 = x) ∧ (∀ i : BitVec 6, 4 ≤ rotation i ∧ rotation i ≤ 23) ∧
  rotl32 0x80000001 1 = 0x00000003 ∧ rotl32 0x12345678 4 = 0x23456781 ∧ rotl32 0x12345678 7 = 0x1a2b3c09 ∧
  rotl32 0xdeadbeef 16 = 0xbeefdead ∧ rotl32 0xdeadbeef 23 = 0x77ef56df

/-- R164 to R168: the four mixing functions by their truth tables, bit by bit; as words; and which sub-pass uses which. -/
def Obligations.MixingTruthTables : Prop :=
  (∀ (x y z : Word) (k : Nat), k < 32 →
    (mixF x y z).getLsbD k = (if x.getLsbD k then y.getLsbD k else z.getLsbD k) ∧
    (mixG x y z).getLsbD k = (if z.getLsbD k then x.getLsbD k else y.getLsbD k) ∧
    (mixH x y z).getLsbD k = (x.getLsbD k ^^ y.getLsbD k ^^ z.getLsbD k) ∧
    (mixI x y z).getLsbD k = (y.getLsbD k ^^ (x.getLsbD k || !z.getLsbD k))) ∧
  (∀ x y z : Word, mixG x y z = mixF z x y) ∧
  mixF 0xf0f0f0f0 0xcccccccc 0xaaaaaaaa = 0xcacacaca ∧ mixG 0xf0f0f0f0 0xcccccccc 0xaaaaaaaa = 0xe4e4e4e4 ∧
  mixH 0xf0f0f0f0 0xcccccccc 0xaaaaaaaa = 0x96969696 ∧ mixI 0xf0f0f0f0 0xcccccccc 0xaaaaaaaa = 0x39393939 ∧
  mixF 0xefcdab89 0x98badcfe 0x10325476 = 0x98badcfe ∧ mixG 0xd6819c6a 0x5aa53f75 0x374943a7 = 0x5ea53c72 ∧
  mixH 0xa2205f1f 0x1c31c384 0xae7813db = 0x10698f40 ∧ mixI 0xca7d2dbd 0x68d84ea2 0x22a31f54 = 0xb7a5a31d ∧
  (∀ i : BitVec 6, mixOf (passOf i) =
    if i.toNat / 16 = 0 then mixF else if i.toNat / 16 = 1 then mixG else if i.toNat / 16 = 2 then mixH else mixI)

/-- R140, R53: a block word is its four bytes, the lowest offset least significant; bits 7:0 and 31:24 of it; the rule's
example. -/
def Obligations.BlockWordsLittleEndian : Prop :=
  (∀ (blk : Block) (j : Nat) (hj : j < 16), (blockWord blk ⟨j, hj⟩).toNat =
      blk[4 * j].toNat + 2 ^ 8 * blk[4 * j + 1].toNat + 2 ^ 16 * blk[4 * j + 2].toNat + 2 ^ 24 * blk[4 * j + 3].toNat ∧
    (blockWord blk ⟨j, hj⟩).extractLsb' 0 8 = blk[4 * j] ∧ (blockWord blk ⟨j, hj⟩).extractLsb' 24 8 = blk[4 * j + 3]) ∧
  ∀ blk : Block, blk[0] = 0x61 → blk[1] = 0x62 → blk[2] = 0x63 → blk[3] = 0x80 → blockWord blk 0 = 0x80636261

/-- R142, R143, R144: the message-word index by its formulas, in the round index or in the position inside the sub-pass;
tabulated; a permutation within each sub-pass, so that each word is used four times. -/
def Obligations.WordIndexSchedule : Prop :=
  (∀ i : BitVec 6, (wordIndex i).val =
    if i.toNat ≤ 15 then i.toNat else if i.toNat ≤ 31 then (5 * i.toNat + 1) % 16
    else if i.toNat ≤ 47 then (3 * i.toNat + 5) % 16 else 7 * i.toNat % 16) ∧
  (∀ i : BitVec 6, (wordIndex i).val =
    if i.toNat ≤ 15 then i.toNat % 16 else if i.toNat ≤ 31 then (5 * (i.toNat % 16) + 1) % 16
    else if i.toNat ≤ 47 then (3 * (i.toNat % 16) + 5) % 16 else 7 * (i.toNat % 16) % 16) ∧
  ((List.range 64).map fun n => (wordIndex (BitVec.ofNat 6 n)).val) =
    [0, 1, 2, 3, 4, 5, 6, 7, 8, 9, 10, 11, 12, 13, 14, 15, 1, 6, 11, 0, 5, 10, 15, 4, 9, 14, 3, 8, 13, 2, 7, 12] ++
    [5, 8, 11, 14, 1, 4, 7, 10, 13, 0, 3, 6, 9, 12, 15, 2, 0, 7, 14, 5, 12, 3, 10, 1, 8, 15, 6, 13, 4, 11, 2, 9] ∧
  (∀ (p : Fin 4) (j : Fin 16), ∃! q : Fin 16, wordIndex (BitVec.ofNat 6 (16 * p.val + q.val)) = j) ∧
  ∀ j : Fin 16, ((List.range 64).countP fun n => wordIndex (BitVec.ofNat 6 n) == j) = 4

/-- R149: K[i] = floor(2^32 · |sin(i + 1)|), the argument in radians: the cross-check of the literal table that R151 asks
for. -/
def Obligations.AdditiveConstantsAreSines : Prop :=
  ∀ i : BitVec 6, ((kConst i).toNat : ℤ) = ⌊(2 : ℝ) ^ 32 * |Real.sin ((i.toNat : ℝ) + 1)|⌋

/-- R200 to R207: rounds 0 to 7 with their selectors, operands and worked examples. -/
def Obligations.Rounds0To7AsListed : Prop :=
  RoundListed 0b000000#6 .round0 0 0 mixF 0xd76aa478 0 7 #v[0x67452301, 0xefcdab89, 0x98badcfe, 0x10325476]
    0x98badcfe 0x00000080 0xa5202774 #v[0x10325476, 0xa5202774, 0xefcdab89, 0x98badcfe] ∧
  RoundListed 0b000001#6 .round1 0 1 mixF 0xe8c7b756 1 12 #v[0x10325476, 0xa5202774, 0xefcdab89, 0x98badcfe]
    0xbd9afb8a 0x00000000 0xf59592dd #v[0x98badcfe, 0xf59592dd, 0xa5202774, 0xefcdab89] ∧
  RoundListed 0b000010#6 .round2 0 2 mixF 0x242070db 2 17 #v[0x98badcfe, 0xf59592dd, 0xa5202774, 0xefcdab89]
    0xaf482b54 0x00000000 0xe7f06b23 #v[0xefcdab89, 0xe7f06b23, 0xf59592dd, 0xa5202774] ∧
  RoundListed 0b000011#6 .round3 0 3 mixF 0xc1bdceee 3 22 #v[0xefcdab89, 0xe7f06b23, 0xf59592dd, 0xa5202774]
    0xe5900655 0x00000000 0x1b163203 #v[0xa5202774, 0x1b163203, 0xe7f06b23, 0xf59592dd] ∧
  RoundListed 0b000100#6 .round4 0 4 mixF 0xf57c0faf 4 7 #v[0xa5202774, 0x1b163203, 0xe7f06b23, 0xf59592dd]
    0xe791a2df 0x00000000 0x32033344 #v[0xf59592dd, 0x32033344, 0x1b163203, 0xe7f06b23] ∧
  RoundListed 0b000101#6 .round5 0 5 mixF 0x4787c62a 5 12 #v[0xf59592dd, 0x32033344, 0x1b163203, 0xe7f06b23]
    0xd7f27a23 0x00000000 0x2f35d494 #v[0xe7f06b23, 0x2f35d494, 0x32033344, 0x1b163203] ∧
  RoundListed 0b000110#6 .round6 0 6 mixF 0xa8304613 6 17 #v[0xe7f06b23, 0x2f35d494, 0x32033344, 0x1b163203]
    0x32033207 0x00000000 0xf5b158db #v[0x1b163203, 0xf5b158db, 0x2f35d494, 0x32033344] ∧
  RoundListed 0b000111#6 .round7 0 7 mixF 0xfd469501 7 22 #v[0x1b163203, 0xf5b158db, 0x2f35d494, 0x32033344]
    0x27337394 0x00000000 0x9bc13ce9 #v[0x32033344, 0x9bc13ce9, 0xf5b158db, 0x2f35d494]

/-- R208 to R215: rounds 8 to 15 with their selectors, operands and worked examples. -/
def Obligations.Rounds8To15AsListed : Prop :=
  RoundListed 0b001000#6 .round8 0 8 mixF 0x698098d8 8 7 #v[0x32033344, 0x9bc13ce9, 0xf5b158db, 0x2f35d494]
    0xb5b5d8dd 0x00000000 0x3893b991 #v[0x2f35d494, 0x3893b991, 0x9bc13ce9, 0xf5b158db] ∧
  RoundListed 0b001001#6 .round9 0 9 mixF 0x8b44f7af 9 12 #v[0x2f35d494, 0x3893b991, 0x9bc13ce9, 0xf5b158db]
    0xdda178cb 0x00000000 0xfce4a312 #v[0xf5b158db, 0xfce4a312, 0x3893b991, 0x9bc13ce9] ∧
  RoundListed 0b001010#6 .round10 0 10 mixF 0xffff5bb1 10 17 #v[0xf5b158db, 0xfce4a312, 0x3893b991, 0x9bc13ce9]
    0x3b81bdf9 0x00000000 0xe1ef0576 #v[0x9bc13ce9, 0xe1ef0576, 0xfce4a312, 0x3893b991] ∧
  RoundListed 0b001011#6 .round11 0 11 mixF 0x895cd7be 11 22 #v[0x9bc13ce9, 0xe1ef0576, 0xfce4a312, 0x3893b991]
    0xf8f4b993 0x00000000 0x70768a29 #v[0x3893b991, 0x70768a29, 0xe1ef0576, 0xfce4a312] ∧
  RoundListed 0b001100#6 .round12 0 12 mixF 0x6b901122 12 7 #v[0x3893b991, 0x70768a29, 0xe1ef0576, 0xfce4a312]
    0xece62132 0x00000000 0xf56c7cf1 #v[0xfce4a312, 0xf56c7cf1, 0x70768a29, 0xe1ef0576] ∧
  RoundListed 0b001101#6 .round13 0 13 mixF 0xfd987193 13 12 #v[0xfce4a312, 0xf56c7cf1, 0x70768a29, 0xe1ef0576]
    0x70e70927 0x00000000 0x374943a7 #v[0xe1ef0576, 0x374943a7, 0xf56c7cf1, 0x70768a29] ∧
  RoundListed 0b001110#6 .round14 0 14 mixF 0xa679438e 14 17 #v[0xe1ef0576, 0x374943a7, 0xf56c7cf1, 0x70768a29]
    0x757ec8a9 0x00000000 0x5aa53f75 #v[0x70768a29, 0x5aa53f75, 0x374943a7, 0xf56c7cf1] ∧
  RoundListed 0b001111#6 .round15 0 15 mixF 0x49b40821 15 22 #v[0x70768a29, 0x5aa53f75, 0x374943a7, 0xf56c7cf1]
    0xb74943a5 0x00000000 0xd6819c6a #v[0xf56c7cf1, 0xd6819c6a, 0x5aa53f75, 0x374943a7]

/-- R216 to R223: rounds 16 to 23 with their selectors, operands and worked examples. -/
def Obligations.Rounds16To23AsListed : Prop :=
  RoundListed 0b010000#6 .round16 1 0 mixG 0xf61e2562 1 5 #v[0xf56c7cf1, 0xd6819c6a, 0x5aa53f75, 0x374943a7]
    0x5ea53c72 0x00000000 0x1c7d7513 #v[0x374943a7, 0x1c7d7513, 0xd6819c6a, 0x5aa53f75] ∧
  RoundListed 0b010001#6 .round17 1 1 mixG 0xc040b340 6 9 #v[0x374943a7, 0x1c7d7513, 0xd6819c6a, 0x5aa53f75]
    0x9c25b51b 0x00000000 0x7bd57a3a #v[0x5aa53f75, 0x7bd57a3a, 0x1c7d7513, 0xd6819c6a] ∧
  RoundListed 0b010010#6 .round18 1 2 mixG 0x265e5a51 11 14 #v[0x5aa53f75, 0x7bd57a3a, 0x1c7d7513, 0xd6819c6a]
    0x5afd793b 0x00000000 0xc095f13a #v[0xd6819c6a, 0xc095f13a, 0x7bd57a3a, 0x1c7d7513] ∧
  RoundListed 0b010011#6 .round19 1 3 mixG 0xe9b6c7aa 0 20 #v[0xd6819c6a, 0xc095f13a, 0x7bd57a3a, 0x1c7d7513]
    0x63957b3a 0x00000080 0xbd782e17 #v[0x1c7d7513, 0xbd782e17, 0xc095f13a, 0x7bd57a3a] ∧
  RoundListed 0b010100#6 .round20 1 4 mixG 0xd62f105d 5 5 #v[0x1c7d7513, 0xbd782e17, 0xc095f13a, 0x7bd57a3a]
    0xb950ab12 0x00000000 0x3d1e3e6c #v[0x7bd57a3a, 0x3d1e3e6c, 0xbd782e17, 0xc095f13a] ∧
  RoundListed 0b010101#6 .round21 1 5 mixG 0x02441453 10 9 #v[0x7bd57a3a, 0x3d1e3e6c, 0xbd782e17, 0xc095f13a]
    0x3d7c3e2d 0x00000000 0x68b7b3e3 #v[0xc095f13a, 0x68b7b3e3, 0x3d1e3e6c, 0xbd782e17] ∧
  RoundListed 0b010110#6 .round22 1 6 mixG 0xd8a1e681 15 14 #v[0xc095f13a, 0x68b7b3e3, 0x3d1e3e6c, 0xbd782e17]
    0x2836326b 0x00000000 0xeb41643e #v[0xbd782e17, 0xeb41643e, 0x68b7b3e3, 0x3d1e3e6c] ∧
  RoundListed 0b010111#6 .round23 1 7 mixG 0xe7d3fbc8 4 20 #v[0xbd782e17, 0xeb41643e, 0x68b7b3e3, 0x3d1e3e6c]
    0x69a1a5af 0x00000000 0xe422531a #v[0x3d1e3e6c, 0xe422531a, 0xeb41643e, 0x68b7b3e3]

/-- R224 to R231: rounds 24 to 31 with their selectors, operands and worked examples. -/
def Obligations.Rounds24To31AsListed : Prop :=
  RoundListed 0b011000#6 .round24 1 8 mixG 0x21e1cde6 9 5 #v[0x3d1e3e6c, 0xe422531a, 0xeb41643e, 0x68b7b3e3]
    0xe362571e 0x00000000 0x306ec122 #v[0x68b7b3e3, 0x306ec122, 0xe422531a, 0xeb41643e] ∧
  RoundListed 0b011001#6 .round25 1 9 mixG 0xc33707d6 14 9 #v[0x68b7b3e3, 0x306ec122, 0xe422531a, 0xeb41643e]
    0x24625322 0x00000000 0xd28c77c2 #v[0xeb41643e, 0xd28c77c2, 0x306ec122, 0xe422531a] ∧
  RoundListed 0b011010#6 .round26 1 10 mixG 0xf4d50d87 3 14 #v[0xeb41643e, 0xd28c77c2, 0x306ec122, 0xe422531a]
    0xd04cd322 0x00000000 0xa3c663da #v[0xe422531a, 0xa3c663da, 0xd28c77c2, 0x306ec122] ∧
  RoundListed 0b011011#6 .round27 1 11 mixG 0x455a14ed 8 20 #v[0xe422531a, 0xa3c663da, 0xd28c77c2, 0x306ec122]
    0xe2c677c2 0x00000000 0xa0572807 #v[0x306ec122, 0xa0572807, 0xa3c663da, 0xd28c77c2] ∧
  RoundListed 0b011100#6 .round28 1 12 mixG 0xa9e3e905 13 5 #v[0x306ec122, 0xa0572807, 0xa3c663da, 0xd28c77c2]
    0xa146201a 0x00000000 0x13707036 #v[0xd28c77c2, 0x13707036, 0xa0572807, 0xa3c663da] ∧
  RoundListed 0b011101#6 .round29 1 13 mixG 0xfcefa3f8 2 9 #v[0xd28c77c2, 0x13707036, 0xa0572807, 0xa3c663da]
    0x03516817 0x00000000 0xae7813db #v[0xa3c663da, 0xae7813db, 0x13707036, 0xa0572807] ∧
  RoundListed 0b011110#6 .round30 1 14 mixG 0x676f02d9 7 14 #v[0xa3c663da, 0xae7813db, 0x13707036, 0xa0572807]
    0xb3705033 0x00000000 0x1c31c384 #v[0xa0572807, 0x1c31c384, 0xae7813db, 0x13707036] ∧
  RoundListed 0b011111#6 .round31 1 15 mixG 0x8d2a4c8a 12 20 #v[0xa0572807, 0x1c31c384, 0xae7813db, 0x13707036]
    0xbc3843cd 0x00000000 0xa2205f1f #v[0x13707036, 0xa2205f1f, 0x1c31c384, 0xae7813db]

/-- R232 to R239: rounds 32 to 39 with their selectors, operands and worked examples. -/
def Obligations.Rounds32To39AsListed : Prop :=
  RoundListed 0b100000#6 .round32 2 0 mixH 0xfffa3942 5 4 #v[0x13707036, 0xa2205f1f, 0x1c31c384, 0xae7813db]
    0x10698f40 0x00000000 0xdf63eaa1 #v[0xae7813db, 0xdf63eaa1, 0xa2205f1f, 0x1c31c384] ∧
  RoundListed 0b100001#6 .round33 2 1 mixH 0x8771f681 8 11 #v[0xae7813db, 0xdf63eaa1, 0xa2205f1f, 0x1c31c384]
    0x6172763a 0x00000000 0xc3689f5b #v[0x1c31c384, 0xc3689f5b, 0xdf63eaa1, 0xa2205f1f] ∧
  RoundListed 0b100010#6 .round34 2 2 mixH 0x6d9d6122 11 16 #v[0x1c31c384, 0xc3689f5b, 0xdf63eaa1, 0xa2205f1f]
    0xbe2b2ae5 0x00000000 0x12f3e755 #v[0xa2205f1f, 0x12f3e755, 0xc3689f5b, 0xdf63eaa1] ∧
  RoundListed 0b100011#6 .round35 2 3 mixH 0xfde5380c 14 23 #v[0xa2205f1f, 0x12f3e755, 0xc3689f5b, 0xdf63eaa1]
    0x0ef892af 0x00000000 0x004b6669 #v[0xdf63eaa1, 0x004b6669, 0x12f3e755, 0xc3689f5b] ∧
  RoundListed 0b100100#6 .round36 2 4 mixH 0xa4beea44 1 4 #v[0xdf63eaa1, 0x004b6669, 0x12f3e755, 0xc3689f5b]
    0xd1d01e67 0x00000000 0x5f7a9b2e #v[0xc3689f5b, 0x5f7a9b2e, 0x004b6669, 0x12f3e755] ∧
  RoundListed 0b100101#6 .round37 2 5 mixH 0x4bdecfa9 4 11 #v[0xc3689f5b, 0x5f7a9b2e, 0x004b6669, 0x12f3e755]
    0x4dc21a12 0x00000000 0xabc34e16 #v[0x12f3e755, 0xabc34e16, 0x5f7a9b2e, 0x004b6669] ∧
  RoundListed 0b100110#6 .round38 2 6 mixH 0xf6bb4b60 7 16 #v[0x12f3e755, 0xabc34e16, 0x5f7a9b2e, 0x004b6669]
    0xf4f2b351 0x00000000 0x91ca4cb7 #v[0x004b6669, 0x91ca4cb7, 0xabc34e16, 0x5f7a9b2e] ∧
  RoundListed 0b100111#6 .round39 2 7 mixH 0xbebfbc70 10 23 #v[0x004b6669, 0x91ca4cb7, 0xabc34e16, 0x5f7a9b2e]
    0x6573998f 0x00000000 0xc5dc8c15 #v[0x5f7a9b2e, 0xc5dc8c15, 0x91ca4cb7, 0xabc34e16]

/-- R240 to R247: rounds 40 to 47 with their selectors, operands and worked examples. -/
def Obligations.Rounds40To47AsListed : Prop :=
  RoundListed 0b101000#6 .round40 2 8 mixH 0x289b7ec6 13 4 #v[0x5f7a9b2e, 0xc5dc8c15, 0x91ca4cb7, 0xabc34e16]
    0xffd58eb4 0x00000000 0x4497169d #v[0xabc34e16, 0x4497169d, 0xc5dc8c15, 0x91ca4cb7] ∧
  RoundListed 0b101001#6 .round41 2 9 mixH 0xeaa127fa 0 11 #v[0xabc34e16, 0x4497169d, 0xc5dc8c15, 0x91ca4cb7]
    0x1081d63f 0x00000080 0x76fd93d4 #v[0x91ca4cb7, 0x76fd93d4, 0x4497169d, 0xc5dc8c15] ∧
  RoundListed 0b101010#6 .round42 2 10 mixH 0xd4ef3085 3 16 #v[0x91ca4cb7, 0x76fd93d4, 0x4497169d, 0xc5dc8c15]
    0xf7b6095c 0x00000000 0xfd95f243 #v[0xc5dc8c15, 0xfd95f243, 0x76fd93d4, 0x4497169d] ∧
  RoundListed 0b101011#6 .round43 2 11 mixH 0x04881d05 6 23 #v[0xc5dc8c15, 0xfd95f243, 0x76fd93d4, 0x4497169d]
    0xcfff770a 0x00000000 0x0fe32453 #v[0x4497169d, 0x0fe32453, 0xfd95f243, 0x76fd93d4] ∧
  RoundListed 0b101100#6 .round44 2 12 mixH 0xd9d4d039 9 4 #v[0x4497169d, 0x0fe32453, 0xfd95f243, 0x76fd93d4]
    0x848b45c4 0x00000000 0x3f55edfd #v[0x76fd93d4, 0x3f55edfd, 0x0fe32453, 0xfd95f243] ∧
  RoundListed 0b101101#6 .round45 2 13 mixH 0xe6db99e5 12 11 #v[0x76fd93d4, 0x3f55edfd, 0x0fe32453, 0xfd95f243]
    0xcd233bed 0x00000000 0x22a31f54 #v[0xfd95f243, 0x22a31f54, 0x3f55edfd, 0x0fe32453] ∧
  RoundListed 0b101110#6 .round46 2 14 mixH 0x1fa27cf8 15 16 #v[0xfd95f243, 0x22a31f54, 0x3f55edfd, 0x0fe32453]
    0x1215d6fa 0x00000000 0x68d84ea2 #v[0x0fe32453, 0x68d84ea2, 0x22a31f54, 0x3f55edfd] ∧
  RoundListed 0b101111#6 .round47 2 15 mixH 0xc4ac5665 2 23 #v[0x0fe32453, 0x68d84ea2, 0x22a31f54, 0x3f55edfd]
    0x752ebc0b 0x00000000 0xca7d2dbd #v[0x3f55edfd, 0xca7d2dbd, 0x68d84ea2, 0x22a31f54]

/-- R248 to R255: rounds 48 to 55 with their selectors, operands and worked examples. -/
def Obligations.Rounds48To55AsListed : Prop :=
  RoundListed 0b110000#6 .round48 3 0 mixI 0xf4292244 0 6 #v[0x3f55edfd, 0xca7d2dbd, 0x68d84ea2, 0x22a31f54]
    0xb7a5a31d 0x00000080 0x93aa2577 #v[0x22a31f54, 0x93aa2577, 0xca7d2dbd, 0x68d84ea2] ∧
  RoundListed 0b110001#6 .round49 3 1 mixI 0x432aff97 7 10 #v[0x22a31f54, 0x93aa2577, 0xca7d2dbd, 0x68d84ea2]
    0x5dd298c2 0x00000000 0x1688dc85 #v[0x68d84ea2, 0x1688dc85, 0x93aa2577, 0xca7d2dbd] ∧
  RoundListed 0b110010#6 .round50 3 2 mixI 0xab9423a7 14 15 #v[0x68d84ea2, 0x1688dc85, 0x93aa2577, 0xca7d2dbd]
    0xa420fbb0 0x00000000 0xcd85b8cb #v[0xca7d2dbd, 0xcd85b8cb, 0x1688dc85, 0x93aa2577] ∧
  RoundListed 0b110011#6 .round51 3 3 mixI 0xfc93a039 5 21 #v[0xca7d2dbd, 0xcd85b8cb, 0x1688dc85, 0x93aa2577]
    0xfb5d264e 0x00000000 0x561e0689 #v[0x93aa2577, 0x561e0689, 0xcd85b8cb, 0x1688dc85] ∧
  RoundListed 0b110100#6 .round52 3 4 mixI 0x655b59c3 12 6 #v[0x93aa2577, 0x561e0689, 0xcd85b8cb, 0x1688dc85]
    0x32fa9f30 0x00000000 0x5625a114 #v[0x1688dc85, 0x5625a114, 0x561e0689, 0xcd85b8cb] ∧
  RoundListed 0b110101#6 .round53 3 5 mixI 0x8f0ccc92 3 10 #v[0x1688dc85, 0x5625a114, 0x561e0689, 0xcd85b8cb]
    0x2061e1bd 0x00000000 0x3450f42b #v[0xcd85b8cb, 0x3450f42b, 0x5625a114, 0x561e0689] ∧
  RoundListed 0b110110#6 .round54 3 6 mixI 0xffeff47d 10 15 #v[0xcd85b8cb, 0x3450f42b, 0x5625a114, 0x561e0689]
    0xebd45c6b 0x00000000 0x392ad0d0 #v[0x561e0689, 0x392ad0d0, 0x3450f42b, 0x5625a114] ∧
  RoundListed 0b110111#6 .round55 3 7 mixI 0x85845dd1 1 21 #v[0x561e0689, 0x392ad0d0, 0x3450f42b, 0x5625a114]
    0x8daa2ad0 0x00000000 0x1e77fa61 #v[0x5625a114, 0x1e77fa61, 0x392ad0d0, 0x3450f42b]

/-- R256 to R263: rounds 56 to 63 with their selectors, operands and worked examples. -/
def Obligations.Rounds56To63AsListed : Prop :=
  RoundListed 0b111000#6 .round56 3 8 mixI 0x6fa87e4f 8 6 #v[0x5625a114, 0x1e77fa61, 0x392ad0d0, 0x3450f42b]
    0xe6d52b25 0x00000000 0x474a9c8c #v[0x3450f42b, 0x474a9c8c, 0x1e77fa61, 0x392ad0d0] ∧
  RoundListed 0b111001#6 .round57 3 9 mixI 0xfe2ce6e0 15 10 #v[0x3450f42b, 0x474a9c8c, 0x1e77fa61, 0x392ad0d0]
    0xd9a845ce 0x00000000 0xdfce00bc #v[0x392ad0d0, 0xdfce00bc, 0x474a9c8c, 0x1e77fa61] ∧
  RoundListed 0b111010#6 .round58 3 10 mixI 0xa3014314 6 15 #v[0x392ad0d0, 0xdfce00bc, 0x474a9c8c, 0x1e77fa61]
    0xb8849932 0x00000000 0x36594b14 #v[0x1e77fa61, 0x36594b14, 0xdfce00bc, 0x474a9c8c] ∧
  RoundListed 0b111011#6 .round59 3 11 mixI 0x4e0811a1 13 21 #v[0x1e77fa61, 0x36594b14, 0xdfce00bc, 0x474a9c8c]
    0x61336bcb 0x00000000 0x30130182 #v[0x474a9c8c, 0x30130182, 0x36594b14, 0xdfce00bc] ∧
  RoundListed 0b111100#6 .round60 3 12 mixI 0xf7537e82 4 6 #v[0x474a9c8c, 0x30130182, 0x36594b14, 0xdfce00bc]
    0x066ab4d7 0x00000000 0x7246fad3 #v[0xdfce00bc, 0x7246fad3, 0x30130182, 0x36594b14] ∧
  RoundListed 0b111101#6 .round61 3 13 mixI 0xbd3af235 11 10 #v[0xdfce00bc, 0x7246fad3, 0x30130182, 0x36594b14]
    0xcbf5ff79 0x00000000 0x6e10a476 #v[0x36594b14, 0x6e10a476, 0x7246fad3, 0x30130182] ∧
  RoundListed 0b111110#6 .round62 3 14 mixI 0x2ad7d2bb 2 15 #v[0x36594b14, 0x6e10a476, 0x7246fad3, 0x30130182]
    0x9dba04ac 0x00000000 0xff4ea3eb #v[0x30130182, 0xff4ea3eb, 0x6e10a476, 0x7246fad3] ∧
  RoundListed 0b111111#6 .round63 3 15 mixI 0xeb86d391 9 21 #v[0x30130182, 0xff4ea3eb, 0x6e10a476, 0x7246fad3]
    0x91ef0399 0x00000000 0x14e45506 #v[0x7246fad3, 0x14e45506, 0xff4ea3eb, 0x6e10a476]

/-- R169 to R173: each of ROUND0 to ROUND63 runs, from every state: it answers the state in which the working registers
have taken its round over BUF, and nothing else has changed. That a round is an instruction by itself, and that its
result stands in `work`, is the model's choice (log entry 1); so is that it reads neither ERR nor PHASE and runs in a faulted
engine as well (log entry 16). -/
def Obligations.EveryRoundRowRuns : Prop :=
  RoundRowsRun ([(Instr.round0, 0b000000#6), (Instr.round1, 0b000001#6), (Instr.round2, 0b000010#6), (Instr.round3, 0b000011#6),
   (Instr.round4, 0b000100#6), (Instr.round5, 0b000101#6), (Instr.round6, 0b000110#6), (Instr.round7, 0b000111#6),
   (Instr.round8, 0b001000#6), (Instr.round9, 0b001001#6), (Instr.round10, 0b001010#6), (Instr.round11, 0b001011#6),
   (Instr.round12, 0b001100#6), (Instr.round13, 0b001101#6), (Instr.round14, 0b001110#6), (Instr.round15, 0b001111#6)] ++
  [(Instr.round16, 0b010000#6), (Instr.round17, 0b010001#6), (Instr.round18, 0b010010#6), (Instr.round19, 0b010011#6),
   (Instr.round20, 0b010100#6), (Instr.round21, 0b010101#6), (Instr.round22, 0b010110#6), (Instr.round23, 0b010111#6),
   (Instr.round24, 0b011000#6), (Instr.round25, 0b011001#6), (Instr.round26, 0b011010#6), (Instr.round27, 0b011011#6),
   (Instr.round28, 0b011100#6), (Instr.round29, 0b011101#6), (Instr.round30, 0b011110#6), (Instr.round31, 0b011111#6)] ++
  [(Instr.round32, 0b100000#6), (Instr.round33, 0b100001#6), (Instr.round34, 0b100010#6), (Instr.round35, 0b100011#6),
   (Instr.round36, 0b100100#6), (Instr.round37, 0b100101#6), (Instr.round38, 0b100110#6), (Instr.round39, 0b100111#6),
   (Instr.round40, 0b101000#6), (Instr.round41, 0b101001#6), (Instr.round42, 0b101010#6), (Instr.round43, 0b101011#6),
   (Instr.round44, 0b101100#6), (Instr.round45, 0b101101#6), (Instr.round46, 0b101110#6), (Instr.round47, 0b101111#6)] ++
  [(Instr.round48, 0b110000#6), (Instr.round49, 0b110001#6), (Instr.round50, 0b110010#6), (Instr.round51, 0b110011#6),
   (Instr.round52, 0b110100#6), (Instr.round53, 0b110101#6), (Instr.round54, 0b110110#6), (Instr.round55, 0b110111#6),
   (Instr.round56, 0b111000#6), (Instr.round57, 0b111001#6), (Instr.round58, 0b111010#6), (Instr.round59, 0b111011#6),
   (Instr.round60, 0b111100#6), (Instr.round61, 0b111101#6), (Instr.round62, 0b111110#6), (Instr.round63, 0b111111#6)])

/-- R176, R175: the 64 ROUND rows taken in ascending order, from working registers that hold H, leave the registers whose
feed-forward into H is Compress(H, BUF), and change nothing else. (The selectors stand in `pending` and the registers in
`work` by the model's choice, log entries 1, 4; that the rows run whatever ERR and PHASE are is log entry 16.) -/
def Obligations.RoundRowsComputeCompress : Prop :=
  ∀ (s : State) (rest : List HostStep), s.work = s.h →
    s.pending = ((List.range 64).map fun n => HostStep.present (.selector (BitVec.ofNat 6 n))) ++ rest →
    ∃ w : Regs, Host.Core.run core 64 s = .next { s with work := w, pending := rest } ∧
      compress s.h s.buf = #v[s.h[0] + w[0], s.h[1] + w[1], s.h[2] + w[2], s.h[3] + w[3]]

/-- R174: a round moves every value one place along b, c, d, a; and four rounds in a row give the same as the form that
does not move the values, for each of the 16 groups. -/
def Obligations.UnrotatedRoundsAgree : Prop :=
  (∀ (i : BitVec 6) (blk : Block) (w : Regs),
    (round i blk w)[2] = w[1] ∧ (round i blk w)[3] = w[2] ∧ (round i blk w)[0] = w[3]) ∧
  ∀ (q : Nat) (blk : Block) (w : Regs), q < 16 →
    round (BitVec.ofNat 6 (4 * q + 3)) blk (round (BitVec.ofNat 6 (4 * q + 2)) blk
      (round (BitVec.ofNat 6 (4 * q + 1)) blk (round (BitVec.ofNat 6 (4 * q)) blk w))) = fourRoundsInPlace q blk w

/-! ## The finalizer -/

/-- R55, R102: DIGEST[4w + k] is bits 8k+7:8k of word w; the example of R270. -/
def Obligations.DigestBytesLittleEndian : Prop :=
  (∀ (h : Regs) (w k : Nat) (hw : w < 4) (_ : k < 4), (serialize h)[4 * w + k] = h[w].extractLsb' (8 * k) 8) ∧
  serialize #v[0xd98c1dd4, 0x04b2008f, 0x980980e9, 0x7e42f8ec] =
    #v[0xd4, 0x1d, 0x8c, 0xd9, 0x8f, 0x00, 0xb2, 0x04, 0xe9, 0x80, 0x09, 0x98, 0xec, 0xf8, 0x42, 0x7e]

/-- R272, R56: HEX[2n] is the digit of the high four bits of byte n, HEX[2n+1] of the low four; the digits are the
ASCII codes of 0123456789abcdef. -/
def Obligations.HexDigitsHighFirst : Prop :=
  (∀ v : BitVec 4, some (hexDigit v) = (ascii "0123456789abcdef")[v.toNat]?) ∧
  (∀ (d : Vector Byte 16) (n : Nat) (_ : n < 16),
    (hex d)[2 * n] = hexDigit (d[n].extractLsb' 4 4) ∧ (hex d)[2 * n + 1] = hexDigit (d[n].extractLsb' 0 4)) ∧
  (hex #v[0xd4, 0x1d, 0x8c, 0xd9, 0x8f, 0x00, 0xb2, 0x04, 0xe9, 0x80, 0x09, 0x98, 0xec, 0xf8, 0x42, 0x7e]).toList =
    ascii "d41d8cd98f00b204e9800998ecf8427e"

/-- R275: Serialize is a bijection onto the 16-byte strings; Hex is injective. -/
def Obligations.FinalizerLosesNothing : Prop := Function.Bijective serialize ∧ Function.Injective hex

/-- R300: the five known digests. -/
def Obligations.KnownDigests : Prop :=
  (md5 []).toList = ascii "d41d8cd98f00b204e9800998ecf8427e" ∧
  (md5 (ascii "a")).toList = ascii "0cc175b9c0f1b6a831c399e269772661" ∧
  (md5 (ascii "abc")).toList = ascii "900150983cd24fb0d6963f7d28e17f72" ∧
  (md5 (ascii "message digest")).toList = ascii "f96b697d7cb7938d525a2f31aaf161d0" ∧
  (md5 (ascii "abcdefghijklmnopqrstuvwxyz")).toList = ascii "c3fcd3d76192e4007dfb496cca67e13b"

/-! ## Several instances -/

/-- R338: under every schedule of any number of instances, each instance's run is its own machine's run of as many steps
as the schedule gives it: no other instance has any part in it. -/
def Obligations.InstancesRunAlone : Prop :=
  ∀ (ni : Nat) (schedule : List (Fin ni)) (v : Instances ni),
    ∃ u : Instances ni, runSchedule schedule v = .next u ∧
      ∀ k : Fin ni, Host.Core.run core (schedule.count k) v[k] = .next u[k]
end

