-- ==== Sys2Proof/Laws/State.lean ====
section
/-! SUPPORT. What each update of Machine/Ops.lean does to each field of State. -/

namespace Sys2Proof.Machine

open Sys2Proof

@[simp] theorem State.setH_h (s : State) (v : Regs) : (s.setH v).h = v := rfl
@[simp] theorem State.setH_buf (s : State) (v : Regs) : (s.setH v).buf = s.buf := rfl
@[simp] theorem State.setH_len (s : State) (v : Regs) : (s.setH v).len = s.len := rfl
@[simp] theorem State.setH_phase (s : State) (v : Regs) : (s.setH v).phase = s.phase := rfl
@[simp] theorem State.setH_err (s : State) (v : Regs) : (s.setH v).err = s.err := rfl
@[simp] theorem State.setH_errCode (s : State) (v : Regs) : (s.setH v).errCode = s.errCode := rfl
@[simp] theorem State.setH_work (s : State) (v : Regs) : (s.setH v).work = s.work := rfl
@[simp] theorem State.setH_pending (s : State) (v : Regs) : (s.setH v).pending = s.pending := rfl
@[simp] theorem State.setH_seen (s : State) (v : Regs) : (s.setH v).seen = s.seen := rfl
@[simp] theorem State.setH_freeReads (s : State) (v : Regs) : (s.setH v).freeReads = s.freeReads := rfl

@[simp] theorem State.setBuf_h (s : State) (v : Block) : (s.setBuf v).h = s.h := rfl
@[simp] theorem State.setBuf_buf (s : State) (v : Block) : (s.setBuf v).buf = v := rfl
@[simp] theorem State.setBuf_len (s : State) (v : Block) : (s.setBuf v).len = s.len := rfl
@[simp] theorem State.setBuf_phase (s : State) (v : Block) : (s.setBuf v).phase = s.phase := rfl
@[simp] theorem State.setBuf_err (s : State) (v : Block) : (s.setBuf v).err = s.err := rfl
@[simp] theorem State.setBuf_errCode (s : State) (v : Block) : (s.setBuf v).errCode = s.errCode := rfl
@[simp] theorem State.setBuf_work (s : State) (v : Block) : (s.setBuf v).work = s.work := rfl
@[simp] theorem State.setBuf_pending (s : State) (v : Block) : (s.setBuf v).pending = s.pending := rfl
@[simp] theorem State.setBuf_seen (s : State) (v : Block) : (s.setBuf v).seen = s.seen := rfl
@[simp] theorem State.setBuf_freeReads (s : State) (v : Block) : (s.setBuf v).freeReads = s.freeReads := rfl

@[simp] theorem State.setLen_h (s : State) (v : BitVec 64) : (s.setLen v).h = s.h := rfl
@[simp] theorem State.setLen_buf (s : State) (v : BitVec 64) : (s.setLen v).buf = s.buf := rfl
@[simp] theorem State.setLen_len (s : State) (v : BitVec 64) : (s.setLen v).len = v := rfl
@[simp] theorem State.setLen_phase (s : State) (v : BitVec 64) : (s.setLen v).phase = s.phase := rfl
@[simp] theorem State.setLen_err (s : State) (v : BitVec 64) : (s.setLen v).err = s.err := rfl
@[simp] theorem State.setLen_errCode (s : State) (v : BitVec 64) : (s.setLen v).errCode = s.errCode := rfl
@[simp] theorem State.setLen_work (s : State) (v : BitVec 64) : (s.setLen v).work = s.work := rfl
@[simp] theorem State.setLen_pending (s : State) (v : BitVec 64) : (s.setLen v).pending = s.pending := rfl
@[simp] theorem State.setLen_seen (s : State) (v : BitVec 64) : (s.setLen v).seen = s.seen := rfl
@[simp] theorem State.setLen_freeReads (s : State) (v : BitVec 64) : (s.setLen v).freeReads = s.freeReads := rfl

@[simp] theorem State.setPhase_h (s : State) (v : Phase) : (s.setPhase v).h = s.h := rfl
@[simp] theorem State.setPhase_buf (s : State) (v : Phase) : (s.setPhase v).buf = s.buf := rfl
@[simp] theorem State.setPhase_len (s : State) (v : Phase) : (s.setPhase v).len = s.len := rfl
@[simp] theorem State.setPhase_phase (s : State) (v : Phase) : (s.setPhase v).phase = v := rfl
@[simp] theorem State.setPhase_err (s : State) (v : Phase) : (s.setPhase v).err = s.err := rfl
@[simp] theorem State.setPhase_errCode (s : State) (v : Phase) : (s.setPhase v).errCode = s.errCode := rfl
@[simp] theorem State.setPhase_work (s : State) (v : Phase) : (s.setPhase v).work = s.work := rfl
@[simp] theorem State.setPhase_pending (s : State) (v : Phase) : (s.setPhase v).pending = s.pending := rfl
@[simp] theorem State.setPhase_seen (s : State) (v : Phase) : (s.setPhase v).seen = s.seen := rfl
@[simp] theorem State.setPhase_freeReads (s : State) (v : Phase) : (s.setPhase v).freeReads = s.freeReads := rfl

@[simp] theorem State.setErr_h (s : State) (v : Bool) (c : ErrCode) : (s.setErr v c).h = s.h := rfl
@[simp] theorem State.setErr_buf (s : State) (v : Bool) (c : ErrCode) : (s.setErr v c).buf = s.buf := rfl
@[simp] theorem State.setErr_len (s : State) (v : Bool) (c : ErrCode) : (s.setErr v c).len = s.len := rfl
@[simp] theorem State.setErr_phase (s : State) (v : Bool) (c : ErrCode) : (s.setErr v c).phase = s.phase := rfl
@[simp] theorem State.setErr_err (s : State) (v : Bool) (c : ErrCode) : (s.setErr v c).err = v := rfl
@[simp] theorem State.setErr_errCode (s : State) (v : Bool) (c : ErrCode) : (s.setErr v c).errCode = c := rfl
@[simp] theorem State.setErr_work (s : State) (v : Bool) (c : ErrCode) : (s.setErr v c).work = s.work := rfl
@[simp] theorem State.setErr_pending (s : State) (v : Bool) (c : ErrCode) : (s.setErr v c).pending = s.pending := rfl
@[simp] theorem State.setErr_seen (s : State) (v : Bool) (c : ErrCode) : (s.setErr v c).seen = s.seen := rfl
@[simp] theorem State.setErr_freeReads (s : State) (v : Bool) (c : ErrCode) : (s.setErr v c).freeReads = s.freeReads := rfl

@[simp] theorem State.setWork_h (s : State) (v : Regs) : (s.setWork v).h = s.h := rfl
@[simp] theorem State.setWork_buf (s : State) (v : Regs) : (s.setWork v).buf = s.buf := rfl
@[simp] theorem State.setWork_len (s : State) (v : Regs) : (s.setWork v).len = s.len := rfl
@[simp] theorem State.setWork_phase (s : State) (v : Regs) : (s.setWork v).phase = s.phase := rfl
@[simp] theorem State.setWork_err (s : State) (v : Regs) : (s.setWork v).err = s.err := rfl
@[simp] theorem State.setWork_errCode (s : State) (v : Regs) : (s.setWork v).errCode = s.errCode := rfl
@[simp] theorem State.setWork_work (s : State) (v : Regs) : (s.setWork v).work = v := rfl
@[simp] theorem State.setWork_pending (s : State) (v : Regs) : (s.setWork v).pending = s.pending := rfl
@[simp] theorem State.setWork_seen (s : State) (v : Regs) : (s.setWork v).seen = s.seen := rfl
@[simp] theorem State.setWork_freeReads (s : State) (v : Regs) : (s.setWork v).freeReads = s.freeReads := rfl

@[simp] theorem State.setPending_h (s : State) (v : List HostStep) : (s.setPending v).h = s.h := rfl
@[simp] theorem State.setPending_buf (s : State) (v : List HostStep) : (s.setPending v).buf = s.buf := rfl
@[simp] theorem State.setPending_len (s : State) (v : List HostStep) : (s.setPending v).len = s.len := rfl
@[simp] theorem State.setPending_phase (s : State) (v : List HostStep) : (s.setPending v).phase = s.phase := rfl
@[simp] theorem State.setPending_err (s : State) (v : List HostStep) : (s.setPending v).err = s.err := rfl
@[simp] theorem State.setPending_errCode (s : State) (v : List HostStep) : (s.setPending v).errCode = s.errCode := rfl
@[simp] theorem State.setPending_work (s : State) (v : List HostStep) : (s.setPending v).work = s.work := rfl
@[simp] theorem State.setPending_pending (s : State) (v : List HostStep) : (s.setPending v).pending = v := rfl
@[simp] theorem State.setPending_seen (s : State) (v : List HostStep) : (s.setPending v).seen = s.seen := rfl
@[simp] theorem State.setPending_freeReads (s : State) (v : List HostStep) : (s.setPending v).freeReads = s.freeReads := rfl

@[simp] theorem State.addSeen_h (s : State) (r : Reading) : (s.addSeen r).h = s.h := rfl
@[simp] theorem State.addSeen_buf (s : State) (r : Reading) : (s.addSeen r).buf = s.buf := rfl
@[simp] theorem State.addSeen_len (s : State) (r : Reading) : (s.addSeen r).len = s.len := rfl
@[simp] theorem State.addSeen_phase (s : State) (r : Reading) : (s.addSeen r).phase = s.phase := rfl
@[simp] theorem State.addSeen_err (s : State) (r : Reading) : (s.addSeen r).err = s.err := rfl
@[simp] theorem State.addSeen_errCode (s : State) (r : Reading) : (s.addSeen r).errCode = s.errCode := rfl
@[simp] theorem State.addSeen_work (s : State) (r : Reading) : (s.addSeen r).work = s.work := rfl
@[simp] theorem State.addSeen_pending (s : State) (r : Reading) : (s.addSeen r).pending = s.pending := rfl
@[simp] theorem State.addSeen_seen (s : State) (r : Reading) : (s.addSeen r).seen = s.seen ++ [r] := rfl
@[simp] theorem State.addSeen_freeReads (s : State) (r : Reading) : (s.addSeen r).freeReads = s.freeReads := rfl

@[simp] theorem State.nextFree_h (s : State) : (s.nextFree).h = s.h := rfl
@[simp] theorem State.nextFree_buf (s : State) : (s.nextFree).buf = s.buf := rfl
@[simp] theorem State.nextFree_len (s : State) : (s.nextFree).len = s.len := rfl
@[simp] theorem State.nextFree_phase (s : State) : (s.nextFree).phase = s.phase := rfl
@[simp] theorem State.nextFree_err (s : State) : (s.nextFree).err = s.err := rfl
@[simp] theorem State.nextFree_errCode (s : State) : (s.nextFree).errCode = s.errCode := rfl
@[simp] theorem State.nextFree_work (s : State) : (s.nextFree).work = s.work := rfl
@[simp] theorem State.nextFree_pending (s : State) : (s.nextFree).pending = s.pending := rfl
@[simp] theorem State.nextFree_seen (s : State) : (s.nextFree).seen = s.seen := rfl
@[simp] theorem State.nextFree_freeReads (s : State) : (s.nextFree).freeReads = s.freeReads + 1 := rfl

@[simp] theorem raiseFault_h (v : Violation) (s : State) : (raiseFault v s).h = s.h := rfl
@[simp] theorem raiseFault_buf (v : Violation) (s : State) : (raiseFault v s).buf = s.buf := rfl
@[simp] theorem raiseFault_len (v : Violation) (s : State) : (raiseFault v s).len = s.len := rfl
@[simp] theorem raiseFault_phase (v : Violation) (s : State) : (raiseFault v s).phase = s.phase := rfl
@[simp] theorem raiseFault_err (v : Violation) (s : State) : (raiseFault v s).err = true := rfl
@[simp] theorem raiseFault_errCode (v : Violation) (s : State) : (raiseFault v s).errCode = v.code := rfl
@[simp] theorem raiseFault_work (v : Violation) (s : State) : (raiseFault v s).work = s.work := rfl
@[simp] theorem raiseFault_pending (v : Violation) (s : State) : (raiseFault v s).pending = s.pending := rfl
@[simp] theorem raiseFault_seen (v : Violation) (s : State) : (raiseFault v s).seen = s.seen := rfl
@[simp] theorem raiseFault_freeReads (v : Violation) (s : State) : (raiseFault v s).freeReads = s.freeReads := rfl

@[simp] theorem compressBuf_h (s : State) : (compressBuf s).h = compress s.h s.buf := rfl
@[simp] theorem compressBuf_buf (s : State) : (compressBuf s).buf = s.buf := rfl
@[simp] theorem compressBuf_len (s : State) : (compressBuf s).len = s.len := rfl
@[simp] theorem compressBuf_phase (s : State) : (compressBuf s).phase = s.phase := rfl
@[simp] theorem compressBuf_err (s : State) : (compressBuf s).err = s.err := rfl
@[simp] theorem compressBuf_errCode (s : State) : (compressBuf s).errCode = s.errCode := rfl
@[simp] theorem compressBuf_work (s : State) : (compressBuf s).work = s.work := rfl
@[simp] theorem compressBuf_pending (s : State) : (compressBuf s).pending = s.pending := rfl
@[simp] theorem compressBuf_seen (s : State) : (compressBuf s).seen = s.seen := rfl
@[simp] theorem compressBuf_freeReads (s : State) : (compressBuf s).freeReads = s.freeReads := rfl

@[simp] theorem resetEvent_h (s : State) : (resetEvent s).h = iv := rfl
@[simp] theorem resetEvent_buf (s : State) : (resetEvent s).buf = Vector.replicate 64 0 := rfl
@[simp] theorem resetEvent_len (s : State) : (resetEvent s).len = 0 := rfl
@[simp] theorem resetEvent_phase (s : State) : (resetEvent s).phase = .absorb := rfl
@[simp] theorem resetEvent_err (s : State) : (resetEvent s).err = false := rfl
@[simp] theorem resetEvent_errCode (s : State) : (resetEvent s).errCode = .noFault := rfl
@[simp] theorem resetEvent_work (s : State) : (resetEvent s).work = iv := rfl
@[simp] theorem resetEvent_pending (s : State) : (resetEvent s).pending = s.pending := rfl
@[simp] theorem resetEvent_seen (s : State) : (resetEvent s).seen = s.seen := rfl
@[simp] theorem resetEvent_freeReads (s : State) : (resetEvent s).freeReads = s.freeReads := rfl

end Sys2Proof.Machine
end

