-- ==== Sys2Proof/Laws/Ops.lean ====
section
/-! SUPPORT. One lemma per operand form and shared operation, saying once what it does. -/

namespace Sys2Proof.Machine

open Sys2Proof

/-! ## Numbers and fields -/

theorem fillOf_val (len : BitVec 64) : (fillOf len).val = len.toNat % 64 := by
  simp [fillOf, BitVec.extractLsb']

theorem State.fill_val (s : State) : s.fill.val = s.len.toNat % 64 := fillOf_val s.len

theorem bitLen_toNat (len : BitVec 64) : (bitLen len).toNat = 8 * len.toNat % 2 ^ 64 := by
  simp only [bitLen, BitVec.toNat_append, BitVec.extractLsb'_toNat]
  rw [Nat.shiftRight_zero, show (0b000#3).toNat = 0 from rfl, Nat.or_zero, Nat.shiftLeft_eq]
  omega

theorem byteOf_toNat (v : BitVec n) (k : Nat) : (byteOf v k).toNat = v.toNat / 2 ^ (8 * k) % 256 := by
  simp [byteOf, BitVec.extractLsb'_toNat, Nat.shiftRight_eq_div_pow]

theorem byteOf_eq (v : BitVec n) (k : Nat) : byteOf v k = BitVec.ofNat 8 (v.toNat / 2 ^ (8 * k)) := by
  apply BitVec.eq_of_toNat_eq
  simp [byteOf_toNat]

/-- LEN + 1 modulo 2^64 (R26). -/
theorem len_succ (l : BitVec 64) : l + 1#64 = BitVec.ofNat 64 (l.toNat + 1) := by
  apply BitVec.eq_of_toNat_eq; simp

/-- Byte `k` of BITLEN (R126). -/
theorem byteOf_bitLen (l : BitVec 64) (k : Nat) : byteOf (bitLen l) k = BitVec.ofNat 8 (8 * l.toNat % 2 ^ 64 / 2 ^ (8 * k)) := by
  rw [byteOf_eq, bitLen_toNat]

/-! ## Bytes of the buffer -/

@[simp] theorem writeByte_getElem (blk : Block) (i : Fin 64) (v : Byte) (j : Nat) (hj : j < 64) :
    (writeByte blk i v)[j] = if i.val = j then v else blk[j] := by
  simp [writeByte, Vector.getElem_set]

@[simp] theorem zeroFill_getElem (blk : Block) (lo hi j : Nat) (hj : j < 64) :
    (zeroFill blk lo hi)[j] = if lo ≤ j ∧ j < hi then 0 else blk[j] := by
  simp [zeroFill]

@[simp] theorem writeLength_getElem (blk : Block) (v : BitVec 64) (j : Nat) (hj : j < 64) :
    (writeLength blk v)[j] = if 56 ≤ j then byteOf v (j - 56) else blk[j] := by
  simp [writeLength]

@[simp] theorem blockAt_getElem (p : List Byte) (k j : Nat) (hj : j < 64) :
    (blockAt p k)[j] = p.getD (64 * k + j) 0 := by
  simp [blockAt]

/-- Two blocks are equal when their 64 bytes are. -/
theorem block_ext {x y : Block} (h : ∀ (j : Nat) (_ : j < 64), x[j] = y[j]) : x = y := Vector.ext h

/-! ## The compression's recursion -/

@[simp] theorem rounds_zero (blk : Block) (w : Regs) : rounds blk 0 w = w := rfl

theorem rounds_succ (blk : Block) (n : Nat) (w : Regs) :
    rounds blk (n + 1) w = round (BitVec.ofNat 6 n) blk (rounds blk n w) := rfl

@[simp] theorem blocks_length (p : List Byte) : (blocks p).length = p.length / 64 := by simp [blocks]

@[simp] theorem lengthField_length (L : Nat) : (lengthField L).length = 8 := by simp [lengthField]

/-! ## The guard, and what each meaning answers -/

theorem unlessFaulted_of_err {s : State} (h : s.err = true) (f : State → State) : unlessFaulted f s = s := by
  simp [unlessFaulted, h]

theorem unlessFaulted_of_ok {s : State} (h : s.err = false) (f : State → State) : unlessFaulted f s = f s := by
  simp [unlessFaulted, h]

/-- Each meaning of a CMD row answers its guarded effect. -/
theorem exec_init (data : Byte) (s : State) :
    exec (.init data) s = .next (unlessFaulted (initEffect data) s) := rfl

theorem exec_update (data : Byte) (s : State) :
    exec (.update data) s = .next (unlessFaulted (updateEffect data) s) := rfl

theorem exec_final (data : Byte) (s : State) :
    exec (.final data) s = .next (unlessFaulted (finalEffect data) s) := rfl

theorem exec_reserved (data : Byte) (s : State) : exec (.reserved data) s = .next (rejectWord s) := rfl

theorem initEffect_zero (s : State) : initEffect 0 s = startMessage s := rfl

theorem initEffect_data {data : Byte} (h : data ≠ 0) (s : State) :
    initEffect data s = raiseFault .illegalCommand s := if_neg h

theorem updateEffect_absorb {s : State} (h : s.phase = .absorb) (data : Byte) :
    updateEffect data s = absorbByte data s := by
  simp [updateEffect, h]

theorem updateEffect_done {s : State} (h : s.phase = .done) (data : Byte) :
    updateEffect data s = raiseFault .updateWhenDone s := if_pos h

theorem finalEffect_absorb {s : State} (h : s.phase = .absorb) : finalEffect 0 s = finishMessage s := by
  simp [finalEffect, h]

theorem finalEffect_done {s : State} (h : s.phase = .done) : finalEffect 0 s = raiseFault .finalWhenDone s := by
  simp [finalEffect, h]

theorem finalEffect_data {data : Byte} (h : data ≠ 0) (s : State) :
    finalEffect data s = raiseFault .illegalCommand s := if_neg h

/-! ## What an accepted UPDATE and FINAL write -/

/-- A byte that does not fill the block. -/
theorem absorbByte_inside {s : State} {n : Nat} (hn : n < 64) (h : n = s.len.toNat % 64) (h63 : n ≠ 63) (d : Byte) :
    absorbByte d s = { s with buf := s.buf.set n d, len := BitVec.ofNat 64 (s.len.toNat + 1) } := by
  have hf : s.fill.val = n := by rw [State.fill_val, h]
  have : s.fill ≠ 63 := by intro hh; rw [hh] at hf; simp at hf; omega
  simp [absorbByte, this, writeByte, hf, State.setBuf, State.setLen, len_succ]

/-- The byte that fills the block: the block folded includes it. -/
theorem absorbByte_last {s : State} (h : s.len.toNat % 64 = 63) (d : Byte) :
    absorbByte d s = { s with buf := s.buf.set 63 d, len := BitVec.ofNat 64 (s.len.toNat + 1), h := compress s.h (s.buf.set 63 d) } := by
  have hf : s.fill = 63 := by apply Fin.ext; rw [State.fill_val, h]; rfl
  simp [absorbByte, writeByte, hf, State.setBuf, State.setLen, State.setH, compressBuf, len_succ]

/-- FINAL with room for the length: one block. -/
theorem finishMessage_one {s : State} {blk : Block} (h : s.len.toNat % 64 ≤ 55)
    (hb : ∀ (j : Nat) (_ : j < 64), blk[j] =
      if j < s.len.toNat % 64 then s.buf[j] else if j = s.len.toNat % 64 then 0x80 else if j < 56 then 0
      else BitVec.ofNat 8 (8 * s.len.toNat % 2 ^ 64 / 2 ^ (8 * (j - 56)))) :
    finishMessage s = { s with h := compress s.h blk, buf := blk, phase := .done } := by
  have hf := s.fill_val
  have h56 : ¬ 56 ≤ s.fill.val := by omega
  have : writeLength (zeroFill (writeByte s.buf s.fill 0x80#8) (s.fill.val + 1) 64) (bitLen s.len) = blk := by
    apply block_ext
    intro j hj
    rw [hb j hj, writeLength_getElem, zeroFill_getElem, writeByte_getElem, byteOf_bitLen, hf]
    by_cases a : j < s.len.toNat % 64
    · rw [if_neg (by omega), if_neg (by omega), if_neg (by omega), if_pos a]
    by_cases b : j = s.len.toNat % 64
    · rw [if_neg (by omega), if_neg (by omega), if_pos (by omega), if_neg a, if_pos b]; rfl
    by_cases c : j < 56
    · rw [if_neg (by omega), if_pos (by omega), if_neg a, if_neg b, if_pos c]
    · rw [if_pos (by omega), if_neg a, if_neg b, if_neg c]
  simp [finishMessage, h56, padMarker, State.setBuf, State.setPhase, compressBuf, State.setH, this]

/-- FINAL without room for the length: two blocks. -/
theorem finishMessage_two {s : State} {blk₁ blk₂ : Block} (h : 56 ≤ s.len.toNat % 64)
    (h1 : ∀ (j : Nat) (_ : j < 64), blk₁[j] =
      if j < s.len.toNat % 64 then s.buf[j] else if j = s.len.toNat % 64 then 0x80 else 0)
    (h2 : ∀ (j : Nat) (_ : j < 64), blk₂[j] =
      if j < 56 then 0 else BitVec.ofNat 8 (8 * s.len.toNat % 2 ^ 64 / 2 ^ (8 * (j - 56)))) :
    finishMessage s = { s with h := compress (compress s.h blk₁) blk₂, buf := blk₂, phase := .done } := by
  have hf := s.fill_val
  have h56 : 56 ≤ s.fill.val := by omega
  have e1 : zeroFill (writeByte s.buf s.fill 0x80#8) (s.fill.val + 1) 64 = blk₁ := by
    apply block_ext
    intro j hj
    rw [h1 j hj, zeroFill_getElem, writeByte_getElem, hf]
    by_cases a : j < s.len.toNat % 64
    · rw [if_neg (by omega), if_neg (by omega), if_pos a]
    by_cases b : j = s.len.toNat % 64
    · rw [if_neg (by omega), if_pos (by omega), if_neg a, if_pos b]; rfl
    · rw [if_pos (by omega), if_neg a, if_neg b]
  have e2 : writeLength (zeroFill blk₁ 0 56) (bitLen s.len) = blk₂ := by
    apply block_ext
    intro j hj
    rw [h2 j hj, writeLength_getElem, zeroFill_getElem, byteOf_bitLen]
    by_cases c : j < 56
    · rw [if_neg (by omega), if_pos (by omega), if_pos c]
    · rw [if_pos (by omega), if_neg c]
  simp [finishMessage, h56, padMarker, spillBlock, State.setBuf, State.setPhase, compressBuf, State.setH, e1, e2]

/-! ## What an accepted UPDATE and FINAL leave as it was -/

theorem absorbByte_frame (data : Byte) (s : State) :
    (absorbByte data s).phase = s.phase ∧ (absorbByte data s).err = s.err ∧ (absorbByte data s).errCode = s.errCode ∧
    (absorbByte data s).work = s.work ∧ (absorbByte data s).pending = s.pending ∧ (absorbByte data s).seen = s.seen ∧
    (absorbByte data s).freeReads = s.freeReads := by
  unfold absorbByte
  split <;> simp

theorem finishMessage_frame (s : State) :
    (finishMessage s).len = s.len ∧ (finishMessage s).phase = .done ∧ (finishMessage s).err = s.err ∧
    (finishMessage s).errCode = s.errCode ∧ (finishMessage s).work = s.work ∧ (finishMessage s).pending = s.pending ∧
    (finishMessage s).seen = s.seen ∧ (finishMessage s).freeReads = s.freeReads := by
  unfold finishMessage
  split <;> simp [padMarker, spillBlock]

/-! ## What decodes to what -/

/-- The instructions a command word can decode to, and from which words. -/
theorem decodeCommand_cases (cw : BitVec 10) (i : Instr) (h : decodeCommand cw = .ok i) :
    (i = .init 0 ∧ cw = 0x000) ∨ (i = .final 0 ∧ cw = 0x200) ∨ (i = .update (dataField cw) ∧ cw.extractLsb' 8 2 = 0b01) ∨ (i = .reserved (dataField cw) ∧ illegalWord cw = true) := by
  have : ∀ cw : BitVec 10, (match decodeCommand cw with | .ok i => decide ((i = .init 0 ∧ cw = 0x000) ∨ (i = .final 0 ∧ cw = 0x200) ∨ (i = .update (dataField cw) ∧ cw.extractLsb' 8 2 = 0b01) ∨ (i = .reserved (dataField cw) ∧ illegalWord cw = true)) | .error _ => true) = true := by decide +kernel
  have := this cw
  rw [h] at this
  simpa only [decide_eq_true_eq] using this

/-- A presented selector runs the round it names over BUF, whatever the engine's state. -/
theorem exec_decodeSelector (i : BitVec 6) (s : State) : exec (decodeSelector i) s = .next (s.setWork (round i s.buf s.work)) := by
  have h : i = BitVec.ofNat 6 i.toNat := by simp
  have : i.toNat < 64 := i.isLt
  rw [h]
  generalize i.toNat = n at *
  interval_cases n <;> rfl

/-! ## Steps and runs -/

theorem step_of_pending {s : State} {x : HostStep} {rest : List HostStep} (h : s.pending = x :: rest) :
    step s = perform x (s.setPending rest) := by
  simp [step, h]

theorem core_run_next (M : Host.Core) {s t : M.State} (h : M.step s = .next t) (k : Nat) :
    M.run (k + 1) s = M.run k t := by
  simp [Host.Core.run, h]

theorem core_run_refused (M : Host.Core) {s : M.State} {r : M.Refusal} (h : M.step s = .refused r) (k : Nat) :
    M.run (k + 1) s = .refused r := by
  simp [Host.Core.run, h]

theorem core_step (s : State) : core.step s = step s := rfl

theorem run_zero (s : State) : Host.Core.run core 0 s = .next s := rfl

theorem run_succ_of_step {s t : State} (h : step s = .next t) (k : Nat) :
    Host.Core.run core (k + 1) s = Host.Core.run core k t := core_run_next core h k

theorem run_succ_of_refused {s : State} {r : Refusal} (h : step s = .refused r) (k : Nat) :
    Host.Core.run core (k + 1) s = .refused r := core_run_refused core h k

/-- A run of `j + k` steps is a run of `j` and then of `k`. -/
theorem run_add {s t : State} {j : Nat} (h : Host.Core.run core j s = .next t) (k : Nat) :
    Host.Core.run core (j + k) s = Host.Core.run core k t := by
  induction j generalizing s with
  | zero =>
    cases h
    rw [Nat.zero_add]
  | succ j ih =>
    cases hs : step s with
    | next u =>
      rw [run_succ_of_step hs] at h
      rw [show j + 1 + k = (j + k) + 1 by omega, run_succ_of_step hs, ih h]
    | fault r => cases r
    | refused r =>
      rw [run_succ_of_refused hs] at h
      cases h

end Sys2Proof.Machine
end

