-- ==== Sys2Proof/Laws/Message.lean ====
section
/-! SUPPORT. The blocks of a byte sequence: how they split, and the fold over them. -/

namespace Sys2Proof.Machine

open Sys2Proof

theorem blockAt_append_left (p q : List Byte) {k : Nat} (h : 64 * k + 64 ≤ p.length) : blockAt (p ++ q) k = blockAt p k := by
  apply block_ext; intro j hj
  rw [blockAt_getElem, blockAt_getElem, List.getD_append _ _ _ _ (by omega)]

theorem blockAt_append_right (p q : List Byte) {a k : Nat} (h : p.length = 64 * a) : blockAt (p ++ q) (a + k) = blockAt q k := by
  apply block_ext; intro j hj
  rw [blockAt_getElem, blockAt_getElem, List.getD_append_right _ _ _ _ (by omega)]
  rw [show 64 * (a + k) + j - p.length = 64 * k + j by omega]

theorem blocks_append (p q : List Byte) (h : p.length % 64 = 0) : blocks (p ++ q) = blocks p ++ blocks q := by
  obtain ⟨a, ha⟩ : ∃ a, p.length = 64 * a := ⟨p.length / 64, by omega⟩
  have e1 : (p ++ q).length / 64 = a + q.length / 64 := by rw [List.length_append]; omega
  have e2 : p.length / 64 = a := by omega
  unfold blocks
  rw [e1, e2, List.range_add, List.map_append, List.map_map]
  refine congrArg₂ _ ?_ ?_
  · apply List.map_congr_left; intro k hk
    rw [List.mem_range] at hk
    exact blockAt_append_left _ _ (by omega)
  · apply List.map_congr_left; intro k _
    exact blockAt_append_right _ _ ha

theorem blocks_short (p : List Byte) (h : p.length < 64) : blocks p = [] := by
  have : p.length / 64 = 0 := by omega
  rw [blocks, this]; rfl

theorem blocks_one (p : List Byte) (h : p.length = 64) : blocks p = [blockAt p 0] := by
  rw [blocks, h]; rfl

theorem blocks_two (p q : List Byte) (h : p.length = 64) (h2 : q.length = 64) : blocks (p ++ q) = [blockAt p 0, blockAt q 0] := by
  rw [blocks_append _ _ (by omega), blocks_one p h, blocks_one q h2]; rfl

theorem blocks_take (m : List Byte) : blocks (m.take (64 * (m.length / 64))) = blocks m := by
  have h := blocks_append (m.take (64 * (m.length / 64))) (m.drop (64 * (m.length / 64))) (by rw [List.length_take]; omega)
  rw [List.take_append_drop, blocks_short (m.drop _) (by rw [List.length_drop]; omega), List.append_nil] at h
  exact h.symm

theorem fold_take (h : Regs) (m : List Byte) : fold h (m.take (64 * (m.length / 64))) = fold h m := by
  rw [fold, blocks_take, fold]

theorem fold_append (h : Regs) (p q : List Byte) (hp : p.length % 64 = 0) : fold h (p ++ q) = fold (fold h p) q := by
  rw [fold, blocks_append p q hp, List.foldl_append, ← fold, ← fold]

theorem fold_short (h : Regs) {p : List Byte} (hp : p.length < 64) : fold h p = h := by
  rw [fold, blocks_short p hp]; rfl

theorem fold_one (h : Regs) {p : List Byte} (hp : p.length = 64) : fold h p = compress h (blockAt p 0) := by
  rw [fold, blocks_one p hp]; rfl

/-- The bytes of `m` after its last whole block stand before what follows `m`. -/
theorem fold_append_tail (h : Regs) (m q : List Byte) :
    fold h (m ++ q) = fold (fold h m) (m.drop (64 * (m.length / 64)) ++ q) := by
  rw [← fold_take h m, ← fold_append _ _ _ (by rw [List.length_take]; omega), ← List.append_assoc,
    List.take_append_drop]

end Sys2Proof.Machine
end

