-- ==== Sys2Proof/Laws/PerInstr.lean ====
section
/-! SUPPORT. One lemma per constructor of `Instr`: its word, numbered as the opcode table numbers it, is read back as the
instruction by the host's probe. -/

namespace Sys2Proof.Laws.TableRow

open Sys2Proof

/-- How many bits, in whole bytes, a word of each map takes in the table, and the word as a number. -/
def tableWord (w : PortWord) : Nat × Nat :=
  match w with
  | .command cw => (16, cw.toNat)
  | .selector i => (8, i.toNat)

/-- The table word of `i` is read as `i`, if `i` is well formed. -/
def Statement (i : Instr) : Prop :=
  i.wf = true → decodeTableWord (tableWord (encode i)).1 (tableWord (encode i)).2 = some i

theorem init (data : Byte) : Statement (.init data) := by
  intro h
  have : data = 0 := by simpa [Instr.wf] using h
  subst this
  rfl

theorem update (data : Byte) : Statement (.update data) := by
  intro _
  revert data
  decide +kernel

theorem final (data : Byte) : Statement (.final data) := by
  intro h
  have : data = 0 := by simpa [Instr.wf] using h
  subst this
  rfl

theorem reserved (data : Byte) : Statement (.reserved data) := by
  intro _
  revert data
  decide +kernel

theorem round0 : Statement .round0 := fun _ => rfl
theorem round1 : Statement .round1 := fun _ => rfl
theorem round2 : Statement .round2 := fun _ => rfl
theorem round3 : Statement .round3 := fun _ => rfl
theorem round4 : Statement .round4 := fun _ => rfl
theorem round5 : Statement .round5 := fun _ => rfl
theorem round6 : Statement .round6 := fun _ => rfl
theorem round7 : Statement .round7 := fun _ => rfl
theorem round8 : Statement .round8 := fun _ => rfl
theorem round9 : Statement .round9 := fun _ => rfl
theorem round10 : Statement .round10 := fun _ => rfl
theorem round11 : Statement .round11 := fun _ => rfl
theorem round12 : Statement .round12 := fun _ => rfl
theorem round13 : Statement .round13 := fun _ => rfl
theorem round14 : Statement .round14 := fun _ => rfl
theorem round15 : Statement .round15 := fun _ => rfl
theorem round16 : Statement .round16 := fun _ => rfl
theorem round17 : Statement .round17 := fun _ => rfl
theorem round18 : Statement .round18 := fun _ => rfl
theorem round19 : Statement .round19 := fun _ => rfl
theorem round20 : Statement .round20 := fun _ => rfl
theorem round21 : Statement .round21 := fun _ => rfl
theorem round22 : Statement .round22 := fun _ => rfl
theorem round23 : Statement .round23 := fun _ => rfl
theorem round24 : Statement .round24 := fun _ => rfl
theorem round25 : Statement .round25 := fun _ => rfl
theorem round26 : Statement .round26 := fun _ => rfl
theorem round27 : Statement .round27 := fun _ => rfl
theorem round28 : Statement .round28 := fun _ => rfl
theorem round29 : Statement .round29 := fun _ => rfl
theorem round30 : Statement .round30 := fun _ => rfl
theorem round31 : Statement .round31 := fun _ => rfl
theorem round32 : Statement .round32 := fun _ => rfl
theorem round33 : Statement .round33 := fun _ => rfl
theorem round34 : Statement .round34 := fun _ => rfl
theorem round35 : Statement .round35 := fun _ => rfl
theorem round36 : Statement .round36 := fun _ => rfl
theorem round37 : Statement .round37 := fun _ => rfl
theorem round38 : Statement .round38 := fun _ => rfl
theorem round39 : Statement .round39 := fun _ => rfl
theorem round40 : Statement .round40 := fun _ => rfl
theorem round41 : Statement .round41 := fun _ => rfl
theorem round42 : Statement .round42 := fun _ => rfl
theorem round43 : Statement .round43 := fun _ => rfl
theorem round44 : Statement .round44 := fun _ => rfl
theorem round45 : Statement .round45 := fun _ => rfl
theorem round46 : Statement .round46 := fun _ => rfl
theorem round47 : Statement .round47 := fun _ => rfl
theorem round48 : Statement .round48 := fun _ => rfl
theorem round49 : Statement .round49 := fun _ => rfl
theorem round50 : Statement .round50 := fun _ => rfl
theorem round51 : Statement .round51 := fun _ => rfl
theorem round52 : Statement .round52 := fun _ => rfl
theorem round53 : Statement .round53 := fun _ => rfl
theorem round54 : Statement .round54 := fun _ => rfl
theorem round55 : Statement .round55 := fun _ => rfl
theorem round56 : Statement .round56 := fun _ => rfl
theorem round57 : Statement .round57 := fun _ => rfl
theorem round58 : Statement .round58 := fun _ => rfl
theorem round59 : Statement .round59 := fun _ => rfl
theorem round60 : Statement .round60 := fun _ => rfl
theorem round61 : Statement .round61 := fun _ => rfl
theorem round62 : Statement .round62 := fun _ => rfl
theorem round63 : Statement .round63 := fun _ => rfl

end Sys2Proof.Laws.TableRow
end

