-- ==== Sys2Proof/Tests/Slice0.lean ====
section
/-! SUPPORT. Tests. Expected values are those of spec/ (the file or example is named at each test); at the end, states
that meet the hypotheses of each obligation that has some. -/

namespace Sys2Proof.Tests

open Sys2Proof Sys2Proof.Machine Sys2Proof.Statements

set_option Elab.async false

/-! ## Well-formedness -/

/-- R84: INIT's and FINAL's data field must be 0. -/
theorem test_wf_refuses_init_with_data : (Instr.init 0x01).wf = false := by decide

theorem test_wf_refuses_final_with_data : (Instr.final 0xff).wf = false := by decide

theorem test_wf_accepts : (Instr.init 0).wf = true ∧ (Instr.final 0).wf = true ∧ (Instr.update 0xff).wf = true ∧
    (Instr.reserved 0x55).wf = true ∧ Instr.round63.wf = true := by decide

/-! ## Decoding: words written out from the tables of 30_encoding.md -/

/-- R82, R84 -/
theorem test_decode_commands :
    decode (.command 0b0000000000) = .ok (.init 0) ∧ decode (.command 0b0100000000) = .ok (.update 0) ∧
    decode (.command 0b0101100001) = .ok (.update 0x61) ∧ decode (.command 0b1000000000) = .ok (.final 0) ∧
    decode (.command 0b1100000000) = .ok (.reserved 0) ∧ decode (.command 0b1111111111) = .ok (.reserved 0xff) := by
  decide

/-- R84: the ends of the two illegal ranges that no row of the table holds. -/
theorem test_decode_rejects :
    decode (.command 0x001) = .error (.initData 0x01) ∧ decode (.command 0x0ff) = .error (.initData 0xff) ∧
    decode (.command 0x201) = .error (.finalData 0x01) ∧ decode (.command 0x2ff) = .error (.finalData 0xff) := by decide

/-- R100, R101, R200 to R215 -/
theorem test_decode_rounds_0_to_15 :
    decodeSelector 0b000000 = .round0 ∧ decodeSelector 0b000001 = .round1 ∧
    decodeSelector 0b000010 = .round2 ∧ decodeSelector 0b000011 = .round3 ∧
    decodeSelector 0b000100 = .round4 ∧ decodeSelector 0b000101 = .round5 ∧
    decodeSelector 0b000110 = .round6 ∧ decodeSelector 0b000111 = .round7 ∧
    decodeSelector 0b001000 = .round8 ∧ decodeSelector 0b001001 = .round9 ∧
    decodeSelector 0b001010 = .round10 ∧ decodeSelector 0b001011 = .round11 ∧
    decodeSelector 0b001100 = .round12 ∧ decodeSelector 0b001101 = .round13 ∧
    decodeSelector 0b001110 = .round14 ∧ decodeSelector 0b001111 = .round15 := by
  decide

/-- R100, R101, R216 to R231 -/
theorem test_decode_rounds_16_to_31 :
    decodeSelector 0b010000 = .round16 ∧ decodeSelector 0b010001 = .round17 ∧
    decodeSelector 0b010010 = .round18 ∧ decodeSelector 0b010011 = .round19 ∧
    decodeSelector 0b010100 = .round20 ∧ decodeSelector 0b010101 = .round21 ∧
    decodeSelector 0b010110 = .round22 ∧ decodeSelector 0b010111 = .round23 ∧
    decodeSelector 0b011000 = .round24 ∧ decodeSelector 0b011001 = .round25 ∧
    decodeSelector 0b011010 = .round26 ∧ decodeSelector 0b011011 = .round27 ∧
    decodeSelector 0b011100 = .round28 ∧ decodeSelector 0b011101 = .round29 ∧
    decodeSelector 0b011110 = .round30 ∧ decodeSelector 0b011111 = .round31 := by
  decide

/-- R100, R101, R232 to R247 -/
theorem test_decode_rounds_32_to_47 :
    decodeSelector 0b100000 = .round32 ∧ decodeSelector 0b100001 = .round33 ∧
    decodeSelector 0b100010 = .round34 ∧ decodeSelector 0b100011 = .round35 ∧
    decodeSelector 0b100100 = .round36 ∧ decodeSelector 0b100101 = .round37 ∧
    decodeSelector 0b100110 = .round38 ∧ decodeSelector 0b100111 = .round39 ∧
    decodeSelector 0b101000 = .round40 ∧ decodeSelector 0b101001 = .round41 ∧
    decodeSelector 0b101010 = .round42 ∧ decodeSelector 0b101011 = .round43 ∧
    decodeSelector 0b101100 = .round44 ∧ decodeSelector 0b101101 = .round45 ∧
    decodeSelector 0b101110 = .round46 ∧ decodeSelector 0b101111 = .round47 := by
  decide

/-- R100, R101, R248 to R263 -/
theorem test_decode_rounds_48_to_63 :
    decodeSelector 0b110000 = .round48 ∧ decodeSelector 0b110001 = .round49 ∧
    decodeSelector 0b110010 = .round50 ∧ decodeSelector 0b110011 = .round51 ∧
    decodeSelector 0b110100 = .round52 ∧ decodeSelector 0b110101 = .round53 ∧
    decodeSelector 0b110110 = .round54 ∧ decodeSelector 0b110111 = .round55 ∧
    decodeSelector 0b111000 = .round56 ∧ decodeSelector 0b111001 = .round57 ∧
    decodeSelector 0b111010 = .round58 ∧ decodeSelector 0b111011 = .round59 ∧
    decodeSelector 0b111100 = .round60 ∧ decodeSelector 0b111101 = .round61 ∧
    decodeSelector 0b111110 = .round62 ∧ decodeSelector 0b111111 = .round63 := by
  decide

/-- The probes: a 10-bit row, a 6-bit row, and a word no row holds. -/
theorem test_table_words :
    decodeTableWord 16 0x161 = some (.update 0x61) ∧ decodeTableWord 16 0x200 = some (.final 0) ∧
    decodeTableWord 8 0x15 = some .round21 := by decide

/-- R290, R292: the very next step runs the table word. -/
theorem test_fetched_word_runs :
    nextOf (step (State.reset.withFetchWord 16 0x161)) = nextOf (exec (.update 0x61) State.reset) ∧
    nextOf (step (State.reset.withFetchWord 8 0x3f)) = nextOf (exec .round63 State.reset) := by decide +kernel

/-! ## Small states -/

/-- The `n` bytes 00 01 02 ... (95_test_vectors.md). -/
def seq (n : Nat) : List Byte := (List.range n).map (BitVec.ofNat 8)

/-- An engine that has buffered `m`, fewer than 64 bytes, since RESET. -/
def buffered (m : List Byte) : State :=
  { State.reset with len := BitVec.ofNat 64 m.length, buf := Vector.ofFn fun j => m.getD j.val 0 }

/-- O4: the engine after RESET and FINAL. -/
def finishedEmpty : State :=
  { State.reset with h := #v[0xd98c1dd4, 0x04b2008f, 0x980980e9, 0x7e42f8ec], phase := .done, buf := emptyBlock }

/-- O8: after a second FINAL. -/
def failed : State := { finishedEmpty with err := true, errCode := .finalWhenDone }

/-- The empty message's block in BUF and `w` in the working registers. -/
def atRound (w : Regs) : State := { State.reset with buf := emptyBlock, work := w }

/-! ## Operations, one step each (95_test_vectors.md, part 9) -/

/-- O17 -/
theorem test_init_abandons_message :
    nextOf (exec (.init 0) (buffered [0x61, 0x62])) = some { buffered [0x61, 0x62] with h := iv, len := 0 } := by
  decide +kernel

/-- O10 -/
theorem test_init_after_final : nextOf (exec (.init 0) finishedEmpty) =
    some { finishedEmpty with h := iv, len := 0, phase := .absorb } := by decide +kernel

/-- O6: the 64th byte compresses a block that includes it. -/
theorem test_update_fills_block : nextOf (exec (.update 0x3f) (buffered (seq 63))) =
    some { State.reset with h := #v[0x9144d9ca, 0xd901e4c9, 0x72fc5b38, 0x625ff51e], len := 64, buf := blockAt (seq 64) 0 } := by
  decide +kernel

/-- O9 -/
theorem test_update_when_done : nextOf (exec (.update 0x00) finishedEmpty) =
    some { finishedEmpty with err := true, errCode := .updateWhenDone } := by decide +kernel

/-- O8 -/
theorem test_final_when_done : (nextOf (exec (.final 0) finishedEmpty)).map State.status = some 0x07 := by decide +kernel

/-- P5, C1: 56 bytes, two blocks; BUF holds the second. -/
theorem test_final_two_blocks : (nextOf (exec (.final 0) (buffered (seq 56)))).map (fun t => (t.h, t.buf.toList)) =
    some (#v[0xacd1fd51, 0x5d4072da, 0xfc03fafd, 0xd79658b8], List.replicate 56 0 ++ [0xc0, 0x01, 0, 0, 0, 0, 0, 0]) := by
  decide +kernel

/-- P4: 55 bytes, one block: message, marker, length 0x01b8. -/
theorem test_final_one_block : (nextOf (exec (.final 0) (buffered (seq 55)))).map (fun t => t.buf.toList) =
    some (seq 55 ++ [0x80] ++ [0xb8, 0x01, 0, 0, 0, 0, 0, 0]) := by decide +kernel

/-- O11, O14: code 3 in either phase. -/
theorem test_reserved_word : (nextOf (exec (.reserved 0x00) State.reset)).map State.status = some 0x0e ∧
    (nextOf (exec (.reserved 0xff) finishedEmpty)).map State.status = some 0x0f := by decide +kernel

/-- O12, O13, O18: the words no row holds. -/
theorem test_rejected_words : (nextOf (execWord (.command 0x001) State.reset)).map State.status = some 0x0e ∧
    (nextOf (execWord (.command 0x2ff) State.reset)).map State.status = some 0x0e ∧
    (nextOf (execWord (.command 0x201) (buffered [0x61]))).map State.len = some 1 := by decide +kernel

/-- O15, O16: a faulted engine ignores every command word. -/
theorem test_fault_is_sticky : nextOf (exec (.init 0) failed) = some failed ∧
    nextOf (exec (.update 0x61) failed) = some failed ∧ nextOf (exec (.final 0) failed) = some failed ∧
    nextOf (exec (.reserved 0) failed) = some failed := by decide +kernel

/-- R327: RESET wins over a word presented together with it. -/
theorem test_reset_drops_word : nextOf (perform (.reset (some 0x161)) failed) = some State.reset := by decide +kernel

/-- V1: the digest read. -/
theorem test_read_hex : (nextOf (perform .readHex finishedEmpty)).map State.seen =
    some [.hex #v[0x64, 0x34, 0x31, 0x64, 0x38, 0x63, 0x64, 0x39, 0x38, 0x66, 0x30, 0x30, 0x62, 0x32, 0x30, 0x34, 0x65,
      0x39, 0x38, 0x30, 0x30, 0x39, 0x39, 0x38, 0x65, 0x63, 0x66, 0x38, 0x34, 0x32, 0x37, 0x65]] := by decide +kernel

/-- O8: STATUS of a faulted engine. -/
theorem test_read_status : (nextOf (perform .readStatus failed)).map State.seen = some [.status 0x07] := by decide +kernel

/-! ## Rounds: the worked example of each rule R200 to R263 -/

/-- R200 to R207: input and output registers of the examples. -/
theorem test_rounds_0_to_7 :
    nextOf (exec .round0 (atRound #v[0x67452301, 0xefcdab89, 0x98badcfe, 0x10325476])) = some (atRound #v[0x10325476, 0xa5202774, 0xefcdab89, 0x98badcfe]) ∧
    nextOf (exec .round1 (atRound #v[0x10325476, 0xa5202774, 0xefcdab89, 0x98badcfe])) = some (atRound #v[0x98badcfe, 0xf59592dd, 0xa5202774, 0xefcdab89]) ∧
    nextOf (exec .round2 (atRound #v[0x98badcfe, 0xf59592dd, 0xa5202774, 0xefcdab89])) = some (atRound #v[0xefcdab89, 0xe7f06b23, 0xf59592dd, 0xa5202774]) ∧
    nextOf (exec .round3 (atRound #v[0xefcdab89, 0xe7f06b23, 0xf59592dd, 0xa5202774])) = some (atRound #v[0xa5202774, 0x1b163203, 0xe7f06b23, 0xf59592dd]) ∧
    nextOf (exec .round4 (atRound #v[0xa5202774, 0x1b163203, 0xe7f06b23, 0xf59592dd])) = some (atRound #v[0xf59592dd, 0x32033344, 0x1b163203, 0xe7f06b23]) ∧
    nextOf (exec .round5 (atRound #v[0xf59592dd, 0x32033344, 0x1b163203, 0xe7f06b23])) = some (atRound #v[0xe7f06b23, 0x2f35d494, 0x32033344, 0x1b163203]) ∧
    nextOf (exec .round6 (atRound #v[0xe7f06b23, 0x2f35d494, 0x32033344, 0x1b163203])) = some (atRound #v[0x1b163203, 0xf5b158db, 0x2f35d494, 0x32033344]) ∧
    nextOf (exec .round7 (atRound #v[0x1b163203, 0xf5b158db, 0x2f35d494, 0x32033344])) = some (atRound #v[0x32033344, 0x9bc13ce9, 0xf5b158db, 0x2f35d494]) := by
  decide +kernel

/-- R208 to R215: input and output registers of the examples. -/
theorem test_rounds_8_to_15 :
    nextOf (exec .round8 (atRound #v[0x32033344, 0x9bc13ce9, 0xf5b158db, 0x2f35d494])) = some (atRound #v[0x2f35d494, 0x3893b991, 0x9bc13ce9, 0xf5b158db]) ∧
    nextOf (exec .round9 (atRound #v[0x2f35d494, 0x3893b991, 0x9bc13ce9, 0xf5b158db])) = some (atRound #v[0xf5b158db, 0xfce4a312, 0x3893b991, 0x9bc13ce9]) ∧
    nextOf (exec .round10 (atRound #v[0xf5b158db, 0xfce4a312, 0x3893b991, 0x9bc13ce9])) = some (atRound #v[0x9bc13ce9, 0xe1ef0576, 0xfce4a312, 0x3893b991]) ∧
    nextOf (exec .round11 (atRound #v[0x9bc13ce9, 0xe1ef0576, 0xfce4a312, 0x3893b991])) = some (atRound #v[0x3893b991, 0x70768a29, 0xe1ef0576, 0xfce4a312]) ∧
    nextOf (exec .round12 (atRound #v[0x3893b991, 0x70768a29, 0xe1ef0576, 0xfce4a312])) = some (atRound #v[0xfce4a312, 0xf56c7cf1, 0x70768a29, 0xe1ef0576]) ∧
    nextOf (exec .round13 (atRound #v[0xfce4a312, 0xf56c7cf1, 0x70768a29, 0xe1ef0576])) = some (atRound #v[0xe1ef0576, 0x374943a7, 0xf56c7cf1, 0x70768a29]) ∧
    nextOf (exec .round14 (atRound #v[0xe1ef0576, 0x374943a7, 0xf56c7cf1, 0x70768a29])) = some (atRound #v[0x70768a29, 0x5aa53f75, 0x374943a7, 0xf56c7cf1]) ∧
    nextOf (exec .round15 (atRound #v[0x70768a29, 0x5aa53f75, 0x374943a7, 0xf56c7cf1])) = some (atRound #v[0xf56c7cf1, 0xd6819c6a, 0x5aa53f75, 0x374943a7]) := by
  decide +kernel

/-- R216 to R223: input and output registers of the examples. -/
theorem test_rounds_16_to_23 :
    nextOf (exec .round16 (atRound #v[0xf56c7cf1, 0xd6819c6a, 0x5aa53f75, 0x374943a7])) = some (atRound #v[0x374943a7, 0x1c7d7513, 0xd6819c6a, 0x5aa53f75]) ∧
    nextOf (exec .round17 (atRound #v[0x374943a7, 0x1c7d7513, 0xd6819c6a, 0x5aa53f75])) = some (atRound #v[0x5aa53f75, 0x7bd57a3a, 0x1c7d7513, 0xd6819c6a]) ∧
    nextOf (exec .round18 (atRound #v[0x5aa53f75, 0x7bd57a3a, 0x1c7d7513, 0xd6819c6a])) = some (atRound #v[0xd6819c6a, 0xc095f13a, 0x7bd57a3a, 0x1c7d7513]) ∧
    nextOf (exec .round19 (atRound #v[0xd6819c6a, 0xc095f13a, 0x7bd57a3a, 0x1c7d7513])) = some (atRound #v[0x1c7d7513, 0xbd782e17, 0xc095f13a, 0x7bd57a3a]) ∧
    nextOf (exec .round20 (atRound #v[0x1c7d7513, 0xbd782e17, 0xc095f13a, 0x7bd57a3a])) = some (atRound #v[0x7bd57a3a, 0x3d1e3e6c, 0xbd782e17, 0xc095f13a]) ∧
    nextOf (exec .round21 (atRound #v[0x7bd57a3a, 0x3d1e3e6c, 0xbd782e17, 0xc095f13a])) = some (atRound #v[0xc095f13a, 0x68b7b3e3, 0x3d1e3e6c, 0xbd782e17]) ∧
    nextOf (exec .round22 (atRound #v[0xc095f13a, 0x68b7b3e3, 0x3d1e3e6c, 0xbd782e17])) = some (atRound #v[0xbd782e17, 0xeb41643e, 0x68b7b3e3, 0x3d1e3e6c]) ∧
    nextOf (exec .round23 (atRound #v[0xbd782e17, 0xeb41643e, 0x68b7b3e3, 0x3d1e3e6c])) = some (atRound #v[0x3d1e3e6c, 0xe422531a, 0xeb41643e, 0x68b7b3e3]) := by
  decide +kernel

/-- R224 to R231: input and output registers of the examples. -/
theorem test_rounds_24_to_31 :
    nextOf (exec .round24 (atRound #v[0x3d1e3e6c, 0xe422531a, 0xeb41643e, 0x68b7b3e3])) = some (atRound #v[0x68b7b3e3, 0x306ec122, 0xe422531a, 0xeb41643e]) ∧
    nextOf (exec .round25 (atRound #v[0x68b7b3e3, 0x306ec122, 0xe422531a, 0xeb41643e])) = some (atRound #v[0xeb41643e, 0xd28c77c2, 0x306ec122, 0xe422531a]) ∧
    nextOf (exec .round26 (atRound #v[0xeb41643e, 0xd28c77c2, 0x306ec122, 0xe422531a])) = some (atRound #v[0xe422531a, 0xa3c663da, 0xd28c77c2, 0x306ec122]) ∧
    nextOf (exec .round27 (atRound #v[0xe422531a, 0xa3c663da, 0xd28c77c2, 0x306ec122])) = some (atRound #v[0x306ec122, 0xa0572807, 0xa3c663da, 0xd28c77c2]) ∧
    nextOf (exec .round28 (atRound #v[0x306ec122, 0xa0572807, 0xa3c663da, 0xd28c77c2])) = some (atRound #v[0xd28c77c2, 0x13707036, 0xa0572807, 0xa3c663da]) ∧
    nextOf (exec .round29 (atRound #v[0xd28c77c2, 0x13707036, 0xa0572807, 0xa3c663da])) = some (atRound #v[0xa3c663da, 0xae7813db, 0x13707036, 0xa0572807]) ∧
    nextOf (exec .round30 (atRound #v[0xa3c663da, 0xae7813db, 0x13707036, 0xa0572807])) = some (atRound #v[0xa0572807, 0x1c31c384, 0xae7813db, 0x13707036]) ∧
    nextOf (exec .round31 (atRound #v[0xa0572807, 0x1c31c384, 0xae7813db, 0x13707036])) = some (atRound #v[0x13707036, 0xa2205f1f, 0x1c31c384, 0xae7813db]) := by
  decide +kernel

/-- R232 to R239: input and output registers of the examples. -/
theorem test_rounds_32_to_39 :
    nextOf (exec .round32 (atRound #v[0x13707036, 0xa2205f1f, 0x1c31c384, 0xae7813db])) = some (atRound #v[0xae7813db, 0xdf63eaa1, 0xa2205f1f, 0x1c31c384]) ∧
    nextOf (exec .round33 (atRound #v[0xae7813db, 0xdf63eaa1, 0xa2205f1f, 0x1c31c384])) = some (atRound #v[0x1c31c384, 0xc3689f5b, 0xdf63eaa1, 0xa2205f1f]) ∧
    nextOf (exec .round34 (atRound #v[0x1c31c384, 0xc3689f5b, 0xdf63eaa1, 0xa2205f1f])) = some (atRound #v[0xa2205f1f, 0x12f3e755, 0xc3689f5b, 0xdf63eaa1]) ∧
    nextOf (exec .round35 (atRound #v[0xa2205f1f, 0x12f3e755, 0xc3689f5b, 0xdf63eaa1])) = some (atRound #v[0xdf63eaa1, 0x004b6669, 0x12f3e755, 0xc3689f5b]) ∧
    nextOf (exec .round36 (atRound #v[0xdf63eaa1, 0x004b6669, 0x12f3e755, 0xc3689f5b])) = some (atRound #v[0xc3689f5b, 0x5f7a9b2e, 0x004b6669, 0x12f3e755]) ∧
    nextOf (exec .round37 (atRound #v[0xc3689f5b, 0x5f7a9b2e, 0x004b6669, 0x12f3e755])) = some (atRound #v[0x12f3e755, 0xabc34e16, 0x5f7a9b2e, 0x004b6669]) ∧
    nextOf (exec .round38 (atRound #v[0x12f3e755, 0xabc34e16, 0x5f7a9b2e, 0x004b6669])) = some (atRound #v[0x004b6669, 0x91ca4cb7, 0xabc34e16, 0x5f7a9b2e]) ∧
    nextOf (exec .round39 (atRound #v[0x004b6669, 0x91ca4cb7, 0xabc34e16, 0x5f7a9b2e])) = some (atRound #v[0x5f7a9b2e, 0xc5dc8c15, 0x91ca4cb7, 0xabc34e16]) := by
  decide +kernel

/-- R240 to R247: input and output registers of the examples. -/
theorem test_rounds_40_to_47 :
    nextOf (exec .round40 (atRound #v[0x5f7a9b2e, 0xc5dc8c15, 0x91ca4cb7, 0xabc34e16])) = some (atRound #v[0xabc34e16, 0x4497169d, 0xc5dc8c15, 0x91ca4cb7]) ∧
    nextOf (exec .round41 (atRound #v[0xabc34e16, 0x4497169d, 0xc5dc8c15, 0x91ca4cb7])) = some (atRound #v[0x91ca4cb7, 0x76fd93d4, 0x4497169d, 0xc5dc8c15]) ∧
    nextOf (exec .round42 (atRound #v[0x91ca4cb7, 0x76fd93d4, 0x4497169d, 0xc5dc8c15])) = some (atRound #v[0xc5dc8c15, 0xfd95f243, 0x76fd93d4, 0x4497169d]) ∧
    nextOf (exec .round43 (atRound #v[0xc5dc8c15, 0xfd95f243, 0x76fd93d4, 0x4497169d])) = some (atRound #v[0x4497169d, 0x0fe32453, 0xfd95f243, 0x76fd93d4]) ∧
    nextOf (exec .round44 (atRound #v[0x4497169d, 0x0fe32453, 0xfd95f243, 0x76fd93d4])) = some (atRound #v[0x76fd93d4, 0x3f55edfd, 0x0fe32453, 0xfd95f243]) ∧
    nextOf (exec .round45 (atRound #v[0x76fd93d4, 0x3f55edfd, 0x0fe32453, 0xfd95f243])) = some (atRound #v[0xfd95f243, 0x22a31f54, 0x3f55edfd, 0x0fe32453]) ∧
    nextOf (exec .round46 (atRound #v[0xfd95f243, 0x22a31f54, 0x3f55edfd, 0x0fe32453])) = some (atRound #v[0x0fe32453, 0x68d84ea2, 0x22a31f54, 0x3f55edfd]) ∧
    nextOf (exec .round47 (atRound #v[0x0fe32453, 0x68d84ea2, 0x22a31f54, 0x3f55edfd])) = some (atRound #v[0x3f55edfd, 0xca7d2dbd, 0x68d84ea2, 0x22a31f54]) := by
  decide +kernel

/-- R248 to R255: input and output registers of the examples. -/
theorem test_rounds_48_to_55 :
    nextOf (exec .round48 (atRound #v[0x3f55edfd, 0xca7d2dbd, 0x68d84ea2, 0x22a31f54])) = some (atRound #v[0x22a31f54, 0x93aa2577, 0xca7d2dbd, 0x68d84ea2]) ∧
    nextOf (exec .round49 (atRound #v[0x22a31f54, 0x93aa2577, 0xca7d2dbd, 0x68d84ea2])) = some (atRound #v[0x68d84ea2, 0x1688dc85, 0x93aa2577, 0xca7d2dbd]) ∧
    nextOf (exec .round50 (atRound #v[0x68d84ea2, 0x1688dc85, 0x93aa2577, 0xca7d2dbd])) = some (atRound #v[0xca7d2dbd, 0xcd85b8cb, 0x1688dc85, 0x93aa2577]) ∧
    nextOf (exec .round51 (atRound #v[0xca7d2dbd, 0xcd85b8cb, 0x1688dc85, 0x93aa2577])) = some (atRound #v[0x93aa2577, 0x561e0689, 0xcd85b8cb, 0x1688dc85]) ∧
    nextOf (exec .round52 (atRound #v[0x93aa2577, 0x561e0689, 0xcd85b8cb, 0x1688dc85])) = some (atRound #v[0x1688dc85, 0x5625a114, 0x561e0689, 0xcd85b8cb]) ∧
    nextOf (exec .round53 (atRound #v[0x1688dc85, 0x5625a114, 0x561e0689, 0xcd85b8cb])) = some (atRound #v[0xcd85b8cb, 0x3450f42b, 0x5625a114, 0x561e0689]) ∧
    nextOf (exec .round54 (atRound #v[0xcd85b8cb, 0x3450f42b, 0x5625a114, 0x561e0689])) = some (atRound #v[0x561e0689, 0x392ad0d0, 0x3450f42b, 0x5625a114]) ∧
    nextOf (exec .round55 (atRound #v[0x561e0689, 0x392ad0d0, 0x3450f42b, 0x5625a114])) = some (atRound #v[0x5625a114, 0x1e77fa61, 0x392ad0d0, 0x3450f42b]) := by
  decide +kernel

/-- R256 to R263: input and output registers of the examples. -/
theorem test_rounds_56_to_63 :
    nextOf (exec .round56 (atRound #v[0x5625a114, 0x1e77fa61, 0x392ad0d0, 0x3450f42b])) = some (atRound #v[0x3450f42b, 0x474a9c8c, 0x1e77fa61, 0x392ad0d0]) ∧
    nextOf (exec .round57 (atRound #v[0x3450f42b, 0x474a9c8c, 0x1e77fa61, 0x392ad0d0])) = some (atRound #v[0x392ad0d0, 0xdfce00bc, 0x474a9c8c, 0x1e77fa61]) ∧
    nextOf (exec .round58 (atRound #v[0x392ad0d0, 0xdfce00bc, 0x474a9c8c, 0x1e77fa61])) = some (atRound #v[0x1e77fa61, 0x36594b14, 0xdfce00bc, 0x474a9c8c]) ∧
    nextOf (exec .round59 (atRound #v[0x1e77fa61, 0x36594b14, 0xdfce00bc, 0x474a9c8c])) = some (atRound #v[0x474a9c8c, 0x30130182, 0x36594b14, 0xdfce00bc]) ∧
    nextOf (exec .round60 (atRound #v[0x474a9c8c, 0x30130182, 0x36594b14, 0xdfce00bc])) = some (atRound #v[0xdfce00bc, 0x7246fad3, 0x30130182, 0x36594b14]) ∧
    nextOf (exec .round61 (atRound #v[0xdfce00bc, 0x7246fad3, 0x30130182, 0x36594b14])) = some (atRound #v[0x36594b14, 0x6e10a476, 0x7246fad3, 0x30130182]) ∧
    nextOf (exec .round62 (atRound #v[0x36594b14, 0x6e10a476, 0x7246fad3, 0x30130182])) = some (atRound #v[0x30130182, 0xff4ea3eb, 0x6e10a476, 0x7246fad3]) ∧
    nextOf (exec .round63 (atRound #v[0x30130182, 0xff4ea3eb, 0x6e10a476, 0x7246fad3])) = some (atRound #v[0x7246fad3, 0x14e45506, 0xff4ea3eb, 0x6e10a476]) := by
  decide +kernel

/-! ## The compression and the tables -/

/-- T2: the block of "abc" has words other than 0 at 0 and 14. -/
theorem test_compress_abc : (rounds (blockAt (pad [0x61, 0x62, 0x63]) 0) 16 iv) =
      #v[0xdda9b9a6, 0x72aff2e0, 0xe396856b, 0xa1051895] ∧
    compress iv (blockAt (pad [0x61, 0x62, 0x63]) 0) = #v[0x98500190, 0xb04fd23c, 0x7d3f96d6, 0x727fe128] := by
  decide +kernel

/-- K1, K2, K3, K4, K8 -/
theorem test_tables : kTable.length = 64 ∧ kTable.foldl (· ^^^ ·) 0 = 0x10e6cc5a ∧ kTable.foldl (· + ·) 0 = 0x27f3a0bc ∧
    ((List.range 64).map fun n => rotation (BitVec.ofNat 6 n)).sum = 848 ∧
    kConst 21 = 0x02441453 ∧ kConst 10 = 0xffff5bb1 ∧ kConst 0 = 0xd76aa478 ∧ kConst 63 = 0xeb86d391 := by decide +kernel

/-- R151: the literal table is what the formula gives. -/
theorem test_table_matches_formula : kTableMatchesFormula = true := by decide +kernel

/-- W1, W2 -/
theorem test_block_words : blockWord (blockAt (seq 64) 0) 0 = 0x03020100 ∧ blockWord (blockAt (seq 64) 0) 15 = 0x3f3e3d3c := by
  decide +kernel

/-- W6 to W10: the length field and its wrap. -/
theorem test_length_field : lengthField (2 ^ 32 + 5) = [0x28, 0, 0, 0, 8, 0, 0, 0] ∧
    lengthField (2 ^ 61 - 1) = [0xf8, 0xff, 0xff, 0xff, 0xff, 0xff, 0xff, 0xff] ∧
    lengthField (2 ^ 61) = [0, 0, 0, 0, 0, 0, 0, 0] ∧ bitLen (2 ^ 61 + 1) = 8 := by decide +kernel

/-- F4: leading zeros are kept. -/
theorem test_serialize : serialize #v[0x0000000a, 0x00000b00, 0x000c0000, 0x0d000000] =
    #v[0x0a, 0, 0, 0, 0, 0x0b, 0, 0, 0, 0, 0x0c, 0, 0, 0, 0, 0x0d] := by decide +kernel

/-! ## The hypotheses of the obligations are met -/

theorem witness_DecodeInvertsEncode : (Instr.final 0).wf = true ∧ (Instr.update 0xff).wf = true := by decide

theorem witness_DecodedWordIsEncoding : decode (.command 0x3ff) = .ok (.reserved 0xff) ∧
    decode (.selector 63) = .ok .round63 := by decide

/-- Both ends of each of the three ranges. -/
theorem witness_IllegalWordsFault : State.reset.err = false ∧ illegalWord 0x001 = true ∧ illegalWord 0x0ff = true ∧
    illegalWord 0x201 = true ∧ illegalWord 0x2ff = true ∧ illegalWord 0x300 = true ∧ illegalWord 0x3ff = true := by decide

theorem witness_StepRunsPresentedInstr :
    (State.reset.withHostStep (.present (.command 0x161))).pending = [.present (.command 0x161)] ∧
    decode (.command 0x161) = .ok (.update 0x61) := by decide

/-- One word for each clause, the last legal word of an operation included. -/
theorem witness_CommandChecksInOrder : failed.err = true ∧ State.reset.err = false ∧ illegalWord 0x300 = true ∧
    (illegalWord 0x000 = false ∧ (0x000#10).extractLsb' 8 2 = 0b00) ∧
    (illegalWord 0x1ff = false ∧ (0x1ff#10).extractLsb' 8 2 = 0b01) ∧
    (illegalWord 0x200 = false ∧ (0x200#10).extractLsb' 8 2 = 0b10) := by decide

theorem witness_InitStartsMessage : State.reset.err = false ∧ (0x01 : Byte) ≠ 0 := by decide

/-- FILL = 0, 62 and 63, and phase DONE. -/
theorem witness_UpdateAppendsByte :
    (State.reset.err = false ∧ State.reset.phase = .absorb ∧ 0 = State.reset.len.toNat % 64) ∧
    ((buffered (seq 62)).err = false ∧ (buffered (seq 62)).phase = .absorb ∧ 62 = (buffered (seq 62)).len.toNat % 64) ∧
    ((buffered (seq 63)).err = false ∧ (buffered (seq 63)).phase = .absorb ∧ (buffered (seq 63)).len.toNat % 64 = 63) ∧
    (finishedEmpty.err = false ∧ finishedEmpty.phase = .done) := by decide +kernel

/-- FILL = 55 (one block), FILL = 56 (two blocks), phase DONE, non-zero data. -/
theorem witness_FinalPadsAndFolds :
    ((buffered (seq 55)).len.toNat % 64 ≤ 55 ∧ ∀ (j : Nat) (_ : j < 64), (blockAt (pad (seq 55)) 0)[j] =
      if j < (buffered (seq 55)).len.toNat % 64 then (buffered (seq 55)).buf[j]
      else if j = (buffered (seq 55)).len.toNat % 64 then 0x80 else if j < 56 then 0
      else BitVec.ofNat 8 (8 * (buffered (seq 55)).len.toNat % 2 ^ 64 / 2 ^ (8 * (j - 56)))) ∧
    (56 ≤ (buffered (seq 56)).len.toNat % 64 ∧
      (∀ (j : Nat) (_ : j < 64), (blockAt (pad (seq 56)) 0)[j] =
        if j < (buffered (seq 56)).len.toNat % 64 then (buffered (seq 56)).buf[j]
        else if j = (buffered (seq 56)).len.toNat % 64 then 0x80 else 0) ∧
      ∀ (j : Nat) (_ : j < 64), (blockAt (pad (seq 56)) 1)[j] =
        if j < 56 then 0 else BitVec.ofNat 8 (8 * (buffered (seq 56)).len.toNat % 2 ^ 64 / 2 ^ (8 * (j - 56)))) ∧
    (buffered (seq 55)).err = false ∧ (buffered (seq 55)).phase = .absorb ∧
    (buffered (seq 56)).err = false ∧ (buffered (seq 56)).phase = .absorb ∧
    finishedEmpty.err = false ∧ finishedEmpty.phase = .done ∧ (0xff : Byte) ≠ 0 := by decide +kernel

theorem witness_ReservedRowRaises : finishedEmpty.err = false := rfl

/-- Each row answers a next state; FILL = 55 is the last at which FINAL keeps the bytes below it. -/
theorem witness_CommandRowsFrame : (∃ t, exec (.init 1) State.reset = .next t) ∧ (∃ t, exec (.update 0x61) failed = .next t) ∧
    (∃ t, exec (.final 0) (buffered (seq 55)) = .next t) ∧ (buffered (seq 55)).fill.val = 55 ∧
    (∃ t, exec (.reserved 0) State.reset = .next t) :=
  ⟨⟨_, rfl⟩, ⟨_, rfl⟩, ⟨_, rfl⟩, by decide +kernel, ⟨_, rfl⟩⟩

theorem witness_FaultsArePrecise : finishedEmpty.err = false ∧
    ∃ t, execWord (.command 0x200) finishedEmpty = .next t ∧ t.err = true := ⟨rfl, _, rfl, rfl⟩

theorem witness_FaultCauses : finishedEmpty.err = false ∧ finishedEmpty.errCode = .noFault ∧ illegalWord 0x200 = false ∧
    State.reset.err = false ∧ illegalWord 0x0ff = true := by decide

/-- A faulted engine with a command word, a selector, a read and the RESET event. -/
theorem witness_OnlyResetLeavesFault : failed.err = true ∧
    (∃ t, perform (.present (.command 0x000)) failed = .next t) ∧ (∃ t, perform (.present (.selector 63)) failed = .next t) ∧
    (∃ t, perform .readHex failed = .next t) ∧ ∃ t, perform (.reset none) failed = .next t ∧ t.err = false :=
  ⟨rfl, ⟨_, rfl⟩, ⟨_, rfl⟩, ⟨_, rfl⟩, _, rfl, rfl⟩

theorem witness_ResetSetsRuleValues : (failed.withHostStep (.reset none)).pending = [.reset none] ∧
    (failed.withHostStep (.reset (some 0x161))).pending = [.reset (some 0x161)] := by decide

theorem witness_ResetAndInitCompared : (State.reset.err = false ∧ State.reset.errCode = .noFault) ∧ failed.err = true := by
  decide

theorem witness_FaultsOnlyByReuseAfterFinal : ∃ s : State, s.err = false ∧ s.phase = .absorb ∧
    s.pending = [Op.update 0x61, Op.final, Op.init, Op.final, Op.final].map Op.hostStep :=
  ⟨State.reset.setPending ([Op.update 0x61, Op.final, Op.init, Op.final, Op.final].map Op.hostStep), rfl, rfl, rfl⟩

theorem witness_ReadsHaveNoSideEffect : (failed.withHostStep .readDigest).pending = [.readDigest] ∧
    (failed.withHostStep .readHex).pending = [.readHex] ∧ (failed.withHostStep .readStatus).pending = [.readStatus] := by
  decide

theorem witness_ReadsReturnOutputs : finishedEmpty.valid = true := by decide

theorem witness_InvalidReadsHideState : State.reset.valid = false ∧ failed.valid = false := by decide

/-- 0, 55, 56 and 63 bytes. -/
theorem absorbing_empty : Absorbing State.reset [] :=
  ⟨rfl, rfl, rfl, by decide +kernel, fun j hj => absurd hj (by simp)⟩

theorem absorbing_55 : Absorbing (buffered (seq 55)) (seq 55) :=
  ⟨rfl, rfl, by decide +kernel, by decide +kernel, by decide +kernel⟩

theorem absorbing_56 : Absorbing (buffered (seq 56)) (seq 56) :=
  ⟨rfl, rfl, by decide +kernel, by decide +kernel, by decide +kernel⟩

theorem absorbing_63 : Absorbing (buffered (seq 63)) (seq 63) :=
  ⟨rfl, rfl, by decide +kernel, by decide +kernel, by decide +kernel⟩

theorem witness_UpdateExtendsMessage : ∃ s m, Absorbing s m ∧ m.length = 63 := ⟨_, _, absorbing_63, by decide +kernel⟩

theorem witness_FinalFinishesMessage : (∃ s m, Absorbing s m ∧ m.length = 55) ∧ ∃ s m, Absorbing s m ∧ m.length = 56 :=
  ⟨⟨_, _, absorbing_55, by decide +kernel⟩, ⟨_, _, absorbing_56, by decide +kernel⟩⟩

theorem witness_StartAbsorbsNothing : finishedEmpty.err = false := rfl

theorem witness_EveryStepKeepsInvariant : Inv (buffered (seq 55)) ∧
    ∃ t, step ((buffered (seq 55)).withHostStep (.present (.command 0x200))) = .next t :=
  ⟨⟨by decide +kernel, fun _ => ⟨_, .inl absorbing_55⟩⟩, _, rfl⟩

theorem witness_StreamedDigestIsMd5 : ∃ s : State, s.err = false ∧
    s.pending = presentInstr (.init 0) :: [[0x61, 0x62], [], [0x63]].flatMap updates ++ finalize ++ [] :=
  ⟨finishedEmpty.setPending (presentInstr (.init 0) :: [[0x61, 0x62], [], [0x63]].flatMap updates ++ finalize ++ []),
    rfl, rfl⟩

theorem witness_DigestAfterResetIsMd5 : ∃ s : State, s.err = true ∧
    s.pending = .reset (some 0x161) :: updates [0x61] ++ finalize ++ [.readStatus] :=
  ⟨failed.setPending (.reset (some 0x161) :: updates [0x61] ++ finalize ++ [.readStatus]), rfl, rfl⟩

/-- Two states that differ in the working registers and in a stale byte of BUF, before an UPDATE. -/
theorem witness_HiddenStateNeverReachesHost : ∃ s t s' : State, SameToHost s t ∧ s ≠ t ∧ step s = .next s' :=
  ⟨(buffered [0x61]).withHostStep (.present (.command 0x162)),
    ((atRound #v[1, 2, 3, 4]).setBuf ((buffered [0x61]).buf.set 63 0xff)).setLen 1 |>.withHostStep (.present (.command 0x162)),
    _, ⟨by decide, by decide, by decide, by decide, by decide, by decide, by decide, fun _ => by decide,
      fun _ _ => by decide +kernel⟩, by decide +kernel, rfl⟩

/-- Lengths 55 and 56. -/
theorem witness_PaddedSizes : (seq 55).length % 64 ≤ 55 ∧ 56 ≤ (seq 56).length % 64 := by decide +kernel

theorem witness_LastBlocksOfPad : (∃ m t : List Byte, t = m.drop (64 * (m.length / 64)) ∧ m.length % 64 ≤ 55) ∧
    ∃ m t : List Byte, t = m.drop (64 * (m.length / 64)) ∧ 56 ≤ m.length % 64 :=
  ⟨⟨seq 55, _, rfl, by decide +kernel⟩, ⟨seq 56, _, rfl, by decide +kernel⟩⟩

theorem witness_FoldTakesBlocksInOrder : (seq 64).length = 64 ∧ (seq 128).length % 64 = 0 := by decide +kernel

theorem witness_PaddedStreamForm : (seq 55).length % 64 = 55 ∧ (seq 3).length < 4 ∧ 4 < (pad (seq 3)).length - 8 := by
  decide +kernel

theorem witness_LengthFieldBytes : (7 : Nat) < 8 := by decide

/-- The last rotation amount, the last bit. -/
theorem witness_RotationIsCircular : 31 ≤ 31 ∧ (31 : Nat) < 32 := by decide

theorem witness_MixingTruthTables : (31 : Nat) < 32 := by decide

theorem witness_BlockWordsLittleEndian : (15 : Nat) < 16 ∧ (blockAt (pad [0x61, 0x62, 0x63]) 0)[0] = 0x61 ∧
    (blockAt (pad [0x61, 0x62, 0x63]) 0)[1] = 0x62 ∧ (blockAt (pad [0x61, 0x62, 0x63]) 0)[2] = 0x63 ∧
    (blockAt (pad [0x61, 0x62, 0x63]) 0)[3] = 0x80 := by decide +kernel

theorem witness_EveryRoundRowRuns : nextOf (exec .round63 (atRound iv)) = some { atRound iv with work := round 63 emptyBlock iv } ∧
    nextOf (exec .round0 failed) = some { failed with work := round 0 failed.buf failed.work } := by decide +kernel

theorem witness_UnrotatedRoundsAgree : (15 : Nat) < 16 := by decide

theorem witness_DigestBytesLittleEndian : (3 : Nat) < 4 := by decide

theorem witness_HexDigitsHighFirst : (15 : Nat) < 16 := by decide

theorem witness_RoundRowsComputeCompress : ∃ (s : State) (rest : List HostStep), s.work = s.h ∧
    s.pending = ((List.range 64).map fun n => HostStep.present (.selector (BitVec.ofNat 6 n))) ++ rest :=
  ⟨State.reset.setPending (((List.range 64).map fun n => HostStep.present (.selector (BitVec.ofNat 6 n))) ++ [.readStatus]),
    _, rfl, rfl⟩

end Sys2Proof.Tests
end

section
/-! PROOF. The reset state: the values of R40, and STATUS read from them. -/

namespace Sys2Proof.Machine

open Sys2Proof

/-- R31, R104: STATUS is a function of PHASE, ERR and ERRCODE, and all its bits are 0 when these hold their reset
values. -/
theorem State.status_eq_zero (s : State) (hphase : s.phase = .absorb) (herr : s.err = false)
    (hcode : s.errCode = .noFault) : s.status = 0x00 := by
  simp [State.status, hphase, herr, hcode, Phase.bit, ErrCode.bits]

/-- Settles O19: the fields are those `State.reset` is built from, and STATUS follows from PHASE, ERR and ERRCODE. -/
theorem resetStateAsGiven : Obligations.ResetStateAsGiven :=
  have hphase : State.reset.phase = .absorb := rfl
  have herr : State.reset.err = false := rfl
  have hcode : State.reset.errCode = .noFault := rfl
  ⟨rfl, rfl, hphase, herr, hcode, State.status_eq_zero _ hphase herr hcode⟩

end Sys2Proof.Machine
end

section
/-! PROOF. The bytes of the digest: Serialize read byte by byte. -/

namespace Sys2Proof.Machine

open Sys2Proof

/-- R270: every byte of Serialize(h), by its index in the digest. -/
@[simp] theorem serialize_getElem (h : Regs) (n : Nat) (hn : n < 16) :
    (serialize h)[n] = byteOf h[n / 4] (n % 4) := by
  simp [serialize]

/-- R55, R102: the same byte by its word and its place in the word. -/
theorem serialize_getElem_word (h : Regs) (w k : Nat) (hw : w < 4) (hk : k < 4) :
    (serialize h)[4 * w + k] = byteOf h[w] k := by
  have hword : (4 * w + k) / 4 = w := by omega
  have hplace : (4 * w + k) % 4 = k := by omega
  simp only [serialize_getElem, hword, hplace]

/-- Settles O56: byte k of word w stands at 4w + k by `serialize_getElem_word`, as `byteOf` is those bits of the word;
the example of R270 is a closed computation on 16 bytes. -/
theorem digestBytesLittleEndian : Obligations.DigestBytesLittleEndian :=
  ⟨serialize_getElem_word, by decide⟩

end Sys2Proof.Machine
end

section
/-! PROOF. The command word's two fields, what each word decodes to, and the illegal words. -/

namespace Sys2Proof.Machine

open Sys2Proof

/-! ## The two fields of a command word -/

theorem opField_toNat (cw : BitVec 10) : (opField cw).toNat = cw.toNat / 256 := by
  simp only [opField, BitVec.extractLsb'_toNat, Nat.shiftRight_eq_div_pow]
  omega

theorem dataField_toNat (cw : BitVec 10) : (dataField cw).toNat = cw.toNat % 256 := by
  simp [dataField, BitVec.extractLsb'_toNat]

/-- R81: the fields of the word that op and data make. -/
@[simp] theorem opField_append (op : BitVec 2) (data : Byte) : opField (op ++ data) = op :=
  BitVec.extractLsb'_append_eq_left

@[simp] theorem dataField_append (op : BitVec 2) (data : Byte) : dataField (op ++ data) = data :=
  BitVec.extractLsb'_append_eq_right

theorem opField_eq_iff (cw : BitVec 10) (v : BitVec 2) : opField cw = v ↔ cw.toNat / 256 = v.toNat := by
  rw [← BitVec.toNat_inj, opField_toNat]

theorem dataField_eq_zero_iff (cw : BitVec 10) : dataField cw = 0#8 ↔ cw.toNat % 256 = 0 := by
  rw [← BitVec.toNat_inj, dataField_toNat]
  rfl

/-- R81: a command word is its two fields and nothing else. -/
theorem commandWord_eq_iff (x y : BitVec 10) : x = y ↔ opField x = opField y ∧ dataField x = dataField y := by
  rw [← BitVec.toNat_inj, ← BitVec.toNat_inj, ← BitVec.toNat_inj]
  simp only [opField_toNat, dataField_toNat]
  omega

/-- R82: under the mask of op alone a word matches by its op field. -/
theorem and_opMask_eq_iff (cw : BitVec 10) (v : BitVec 2) : cw &&& 0x300 = v ++ 0#8 ↔ opField cw = v := by
  have hop : opField (cw &&& 0x300) = opField cw &&& BitVec.allOnes 2 := BitVec.extractLsb'_and
  have hdata : dataField (cw &&& 0x300) = dataField cw &&& 0#8 := BitVec.extractLsb'_and
  rw [commandWord_eq_iff, hop, hdata, opField_append, dataField_append, BitVec.and_allOnes, BitVec.and_zero]
  exact and_iff_left rfl

/-- R82: under the mask of all ten bits a word with data 0 is matched by both fields. -/
theorem and_fullMask_eq_iff (cw : BitVec 10) (v : BitVec 2) :
    cw &&& 0x3ff = v ++ 0#8 ↔ opField cw = v ∧ dataField cw = 0#8 := by
  have hmask : cw &&& 0x3ff = cw := BitVec.and_allOnes
  rw [hmask, commandWord_eq_iff, opField_append, dataField_append]

/-! ## What a command word decodes to, by its fields -/

/-- R82, R84: the six outcomes of the decoder; the conditions exclude one another and leave no word out. -/
theorem decodeCommand_outcomes (cw : BitVec 10) :
    (opField cw = 0b00 ∧ dataField cw = 0#8 ∧ decodeCommand cw = .ok (.init 0)) ∨
    (opField cw = 0b00 ∧ dataField cw ≠ 0#8 ∧ decodeCommand cw = .error (.initData (dataField cw))) ∨
    (opField cw = 0b01 ∧ decodeCommand cw = .ok (.update (dataField cw))) ∨
    (opField cw = 0b10 ∧ dataField cw = 0#8 ∧ decodeCommand cw = .ok (.final 0)) ∨
    (opField cw = 0b10 ∧ dataField cw ≠ 0#8 ∧ decodeCommand cw = .error (.finalData (dataField cw))) ∨
    (opField cw = 0b11 ∧ decodeCommand cw = .ok (.reserved (dataField cw))) := by
  have hop : ∀ v : BitVec 2, v = 0b00 ∨ v = 0b01 ∨ v = 0b10 ∨ v = 0b11 := by decide
  rcases hop (opField cw) with h | h | h | h
  · by_cases hd : dataField cw = 0#8 <;> simp [decodeCommand, h, hd]
  · simp [decodeCommand, h]
  · by_cases hd : dataField cw = 0#8 <;> simp [decodeCommand, h, hd]
  · simp [decodeCommand, h]

theorem decodeCommand_eq_init_iff (cw : BitVec 10) :
    decodeCommand cw = .ok (.init 0) ↔ opField cw = 0b00 ∧ dataField cw = 0#8 := by
  rcases decodeCommand_outcomes cw with h | h | h | h | h | h <;> simp [h]

theorem decodeCommand_eq_update_iff (cw : BitVec 10) :
    decodeCommand cw = .ok (.update (dataField cw)) ↔ opField cw = 0b01 := by
  rcases decodeCommand_outcomes cw with h | h | h | h | h | h <;> simp [h]

theorem decodeCommand_eq_final_iff (cw : BitVec 10) :
    decodeCommand cw = .ok (.final 0) ↔ opField cw = 0b10 ∧ dataField cw = 0#8 := by
  rcases decodeCommand_outcomes cw with h | h | h | h | h | h <;> simp [h]

theorem decodeCommand_eq_reserved_iff (cw : BitVec 10) (d : Byte) :
    decodeCommand cw = .ok (.reserved d) ↔ opField cw = 0b11 ∧ d = dataField cw := by
  rcases decodeCommand_outcomes cw with h | h | h | h | h | h <;> simp [h, eq_comm (a := d)]

theorem decodeCommand_error_iff (cw : BitVec 10) :
    (∃ e, decodeCommand cw = .error e) ↔ (opField cw = 0b00 ∨ opField cw = 0b10) ∧ dataField cw ≠ 0#8 := by
  rcases decodeCommand_outcomes cw with h | h | h | h | h | h <;> simp [h]

/-- Settles O4: a pattern that fixes every bit is a condition on both fields, one that fixes op alone a condition on op,
and these are the conditions of the decoder's outcomes. -/
theorem commandsMatchMasks : Obligations.CommandsMatchMasks := fun cw =>
  ⟨(decodeCommand_eq_init_iff cw).trans (and_fullMask_eq_iff cw 0b00).symm,
    (decodeCommand_eq_update_iff cw).trans (and_opMask_eq_iff cw 0b01).symm,
    (decodeCommand_eq_final_iff cw).trans (and_fullMask_eq_iff cw 0b10).symm,
    ((decodeCommand_eq_reserved_iff cw _).trans (and_iff_left rfl)).trans (and_opMask_eq_iff cw 0b11).symm,
    decodeCommand_error_iff cw⟩

/-! ## The illegal words -/

/-- R84: a word is illegal when op is 0b11, or when op is 0b00 or 0b10 and the data is not 0. -/
theorem illegalWord_iff (cw : BitVec 10) : illegalWord cw = true ↔
    opField cw = 0b11 ∨ (opField cw = 0b00 ∨ opField cw = 0b10) ∧ dataField cw ≠ 0#8 := by
  simp [illegalWord, or_assoc, or_and_right]

/-- R84: the three ranges. -/
theorem illegalWord_iff_range (cw : BitVec 10) : illegalWord cw = true ↔
    0x300 ≤ cw.toNat ∨ (0x001 ≤ cw.toNat ∧ cw.toNat ≤ 0x0ff) ∨ (0x201 ≤ cw.toNat ∧ cw.toNat ≤ 0x2ff) := by
  have hlt := cw.isLt
  simp only [illegalWord_iff, opField_eq_iff, ne_eq, dataField_eq_zero_iff, BitVec.reduceToNat]
  omega

theorem illegalWord_ofNat_iff (n : Nat) (hn : n < 1024) : illegalWord (BitVec.ofNat 10 n) = true ↔
    0x300 ≤ n ∨ (0x001 ≤ n ∧ n ≤ 0x0ff) ∨ (0x201 ≤ n ∧ n ≤ 0x2ff) := by
  rw [illegalWord_iff_range, BitVec.toNat_ofNat, Nat.mod_eq_of_lt hn]

/-- A run of `k` consecutive words on which the verdict is the same counts whole or not at all. -/
theorem countP_illegalWord_range' (a k : Nat) (verdict : Bool)
    (h : ∀ n, a ≤ n → n < a + k → illegalWord (BitVec.ofNat 10 n) = verdict) :
    ((List.range' a k).countP fun n => illegalWord (BitVec.ofNat 10 n)) = if verdict then k else 0 := by
  have hconst : ((List.range' a k).countP fun n => illegalWord (BitVec.ofNat 10 n)) =
      (List.range' a k).countP fun _ => verdict := List.countP_congr fun n hn => by
    obtain ⟨hlo, hhi⟩ := List.mem_range'_1.1 hn
    rw [h n hlo hhi]
  cases verdict <;> simp [hconst]

/-- R84: 0x001..0x0ff and 0x201..0x3ff are illegal, 0x000 and 0x100..0x200 are not: 255 + 511 = 766. -/
theorem countP_illegalWord : ((List.range 1024).countP fun n => illegalWord (BitVec.ofNat 10 n)) = 766 := by
  have hsplit : List.range 1024 =
      List.range' 0 1 ++ List.range' 1 255 ++ List.range' 0x100 257 ++ List.range' 0x201 511 := by
    rw [List.range_eq_range', List.range'_append_1, List.range'_append_1, List.range'_append_1]
  rw [hsplit, List.countP_append, List.countP_append, List.countP_append,
    countP_illegalWord_range' 0 1 false, countP_illegalWord_range' 1 255 true,
    countP_illegalWord_range' 0x100 257 false, countP_illegalWord_range' 0x201 511 true]
  · rfl
  all_goals
    intro n hlo hhi
    rw [Bool.eq_iff_iff, illegalWord_ofNat_iff n (by omega)]
    simp only [Bool.false_eq_true, iff_false, iff_true]
    omega

/-- R84: the illegal words are those that decode to no operation. -/
theorem illegalWord_iff_no_operation (cw : BitVec 10) : illegalWord cw = true ↔
    (∃ e, decodeCommand cw = .error e) ∨ ∃ data, decodeCommand cw = .ok (.reserved data) := by
  simp only [illegalWord_iff, decodeCommand_error_iff, decodeCommand_eq_reserved_iff, exists_and_left, exists_eq, and_true]
  exact or_comm

/-- R84, R290: a rejected word and a reserved one have the same effect in every state. -/
theorem execWord_illegal {cw : BitVec 10} (h : illegalWord cw = true) (s : State) :
    execWord (.command cw) s = .next (rejectWord s) := by
  rcases (illegalWord_iff_no_operation cw).1 h with ⟨e, he⟩ | ⟨data, hr⟩
  · simp only [execWord, decode, he]
  · simp only [execWord, decode, hr, exec_reserved]

theorem rejectWord_of_ok {s : State} (h : s.err = false) : rejectWord s = raiseFault .illegalCommand s :=
  unlessFaulted_of_ok h _

/-- Settles O5: the ranges, their count and the decoder's verdict are read off the two fields; with ERR = 0 the effect of
an illegal word is `raiseFault .illegalCommand`, which writes ERR and ERRCODE only. -/
theorem illegalWordsFault : Obligations.IllegalWordsFault :=
  ⟨illegalWord_iff_range, countP_illegalWord, illegalWord_iff_no_operation, fun s cw hok hill => by
    rw [execWord_illegal hill, rejectWord_of_ok hok]
    rfl⟩

end Sys2Proof.Machine
end

section
/-! PROOF. The fields of STATUS, and VALID. -/

namespace Sys2Proof.Machine

open Sys2Proof

/-! ## The four fields of STATUS (R31) -/

theorem State.status_bit0 (s : State) : s.status.extractLsb' 0 1 = s.phase.bit :=
  BitVec.extractLsb'_append_eq_right

theorem State.status_bit1 (s : State) : s.status.extractLsb' 1 1 = BitVec.ofBool s.err := by
  rw [State.status, BitVec.extractLsb'_append_eq_of_le (Nat.le_refl 1)]
  exact BitVec.extractLsb'_append_eq_right

theorem State.status_bits32 (s : State) : s.status.extractLsb' 2 2 = s.errCode.bits := by
  rw [State.status, BitVec.extractLsb'_append_eq_of_le (by decide), BitVec.extractLsb'_append_eq_of_le (by decide)]
  exact BitVec.extractLsb'_append_eq_right

theorem State.status_bits74 (s : State) : s.status.extractLsb' 4 4 = 0 := by
  rw [State.status, BitVec.extractLsb'_append_eq_of_le (by decide), BitVec.extractLsb'_append_eq_of_le (by decide)]
  exact BitVec.extractLsb'_append_eq_left

/-! ## The encodings of the flags, and VALID -/

theorem Phase.bit_eq_one_iff (p : Phase) : p.bit = 1 ↔ p = .done := by
  cases p <;> decide

/-- R29: no two codes share their bits. -/
theorem ErrCode.bits_inj (c d : ErrCode) : c.bits = d.bits ↔ c = d := by
  cases c <;> cases d <;> decide

theorem ofBool_eq_one_iff (b : Bool) : BitVec.ofBool b = 1 ↔ b = true := by
  cases b <;> decide

theorem State.valid_iff (s : State) : s.valid = true ↔ s.phase = .done ∧ s.err = false := by
  simp [State.valid]

/-- Settles O22: each field of STATUS is the bits of one flag, and these encodings are one to one. -/
theorem statusLayout : Obligations.StatusLayout := fun s => by
  rw [s.status_bit0, s.status_bit1, s.status_bits32]
  exact ⟨s.phase.bit_eq_one_iff, ofBool_eq_one_iff s.err, s.errCode.bits_inj .noFault,
    s.errCode.bits_inj .finalWhenDone, s.errCode.bits_inj .updateWhenDone, s.errCode.bits_inj .illegalCommand,
    s.status_bits74, s.valid_iff⟩

end Sys2Proof.Machine
end

section
/-! PROOF. The padder: the length field, the sizes, the parts of the padded stream, and its blocks. -/

namespace Sys2Proof.Machine

open Sys2Proof

/-! ## The length field (R126) -/

/-- R126: the hardware's BITLEN is eight times the counter, modulo 2^64. -/
theorem bitLen_ofNat (L : Nat) : bitLen (BitVec.ofNat 64 L) = BitVec.ofNat 64 (8 * L) := by
  apply BitVec.eq_of_toNat_eq
  rw [bitLen_toNat, BitVec.toNat_ofNat, BitVec.toNat_ofNat, Nat.mul_mod_mod]

theorem lengthField_getElem? (L k : Nat) (hk : k < 8) :
    (lengthField L)[k]? = some (BitVec.ofNat 8 (8 * L % 2 ^ 64 / 2 ^ (8 * k))) := by
  rw [lengthField, List.getElem?_map, List.getElem?_range hk, Option.map_some, byteOf_eq, BitVec.toNat_ofNat]

/-- Settles O38: BITLEN and the length field are both 8·L modulo 2^64, and its bytes follow from `byteOf_eq`; the rule's
two examples are closed computations on eight bytes. -/
theorem lengthFieldBytes : Obligations.LengthFieldBytes :=
  ⟨bitLen_ofNat, fun L => ⟨lengthField_length L, lengthField_getElem? L⟩, by decide, by decide⟩

/-! ## The sizes (R121) -/

/-- R121: the marker and the length field fit into the block of the message's last bytes. -/
theorem padZeros_of_le {L : Nat} (h : L % 64 ≤ 55) : padZeros L = 55 - L % 64 := by
  rw [padZeros]
  omega

/-- R121: they do not fit, and the zero bytes run on through one more block. -/
theorem padZeros_of_ge {L : Nat} (h : 56 ≤ L % 64) : padZeros L = 119 - L % 64 := by
  rw [padZeros]
  omega

theorem padZeros_le (L : Nat) : padZeros L ≤ 63 := by
  rw [padZeros]
  omega

@[simp] theorem pad_length (m : List Byte) : (pad m).length = m.length + 1 + padZeros m.length + 8 := by
  simp [pad]
  omega

/-- R120, R121: the zero bytes are as many as complete the last block. -/
theorem pad_length_eq_blocks (m : List Byte) : (pad m).length = 64 * ((m.length + 8) / 64 + 1) := by
  rw [pad_length, padZeros]
  omega

/-- Settles O35: the two forms of the length are `pad_length` and `pad_length_eq_blocks`, the lines of the table the two
values of `padZeros`. -/
theorem paddedSizes : Obligations.PaddedSizes := fun m => by
  have hblocks : (blocks (pad m)).length = (m.length + 8) / 64 + 1 := by
    rw [blocks_length, pad_length_eq_blocks, Nat.mul_div_cancel_left _ (by decide)]
  have hmax := padZeros_le m.length
  refine ⟨pad_length m, pad_length_eq_blocks m, hblocks, by omega, by omega, fun h => ?_, fun h => ?_⟩
  · have hz := padZeros_of_le h
    omega
  · have hz := padZeros_of_ge h
    omega

/-! ## The parts of the padded stream (R131) -/

theorem pad_take (m : List Byte) : (pad m).take m.length = m := by
  simp [pad]

theorem pad_getElem?_marker (m : List Byte) : (pad m)[m.length]? = some 0x80 := by
  simp [pad]

theorem pad_getElem?_zero (m : List Byte) {j : Nat} (hlo : m.length < j) (hhi : j < (pad m).length - 8) :
    (pad m)[j]? = some 0 := by
  rw [pad_length] at hhi
  have hmarker : (m ++ [(0x80 : Byte)]).length = m.length + 1 := by simp
  rw [pad, List.getElem?_append_left (by simp; omega), List.getElem?_append_right (by omega), hmarker,
    List.getElem?_replicate_of_lt (by omega)]

theorem pad_drop (m : List Byte) : (pad m).drop ((pad m).length - 8) = lengthField m.length := by
  rw [pad_length, pad]
  exact List.drop_left' (by simp; omega)

/-- Settles O34: the length is a whole number of blocks, and each part of the stream stands where `pad` appends it. -/
theorem paddedStreamForm : Obligations.PaddedStreamForm := fun m =>
  have hwhole : (pad m).length % 64 = 0 := by rw [pad_length_eq_blocks, Nat.mul_mod_right]
  ⟨hwhole, pad_take m, pad_getElem?_marker m, pad_drop m, fun _ => pad_getElem?_zero m⟩

/-! ## The blocks of the padded stream (R123) -/

/-- The whole blocks of `m` come first; its remaining bytes stand before what follows `m`. -/
theorem blocks_append_tail (m q : List Byte) :
    blocks (m ++ q) = blocks m ++ blocks (m.drop (64 * (m.length / 64)) ++ q) := by
  rw [← blocks_take m, ← blocks_append _ _ (by rw [List.length_take]; omega), ← List.append_assoc,
    List.take_append_drop]

theorem blocks_pad (m : List Byte) : blocks (pad m) = blocks m ++ blocks (m.drop (64 * (m.length / 64)) ++ [0x80] ++
    List.replicate (padZeros m.length) 0 ++ lengthField m.length) := by
  simp only [pad, List.append_assoc]
  exact blocks_append_tail m _

/-- Settles O36: after the whole blocks of the message stand 64 bytes, or 128 that the zero bytes let be cut into two
blocks 56 bytes before the length field. -/
theorem lastBlocksOfPad : Obligations.LastBlocksOfPad := by
  rintro m t rfl
  have htail : (m.drop (64 * (m.length / 64))).length = m.length % 64 := by
    rw [List.length_drop]
    omega
  refine ⟨fun h => ?_, fun h => ?_⟩
  · rw [blocks_pad, padZeros_of_le h, blocks_one (_ ++ lengthField _) (by simp [htail]; omega), blocks]
  · have hz : 119 - m.length % 64 = (63 - m.length % 64) + 56 := by omega
    rw [blocks_pad, padZeros_of_ge h, hz, List.replicate_add, ← List.append_assoc, List.append_assoc,
      blocks_two _ _ (by simp [htail]; omega) (by simp), blocks]

/-! ## The empty message (R124) -/

theorem pad_nil : pad [] = 0x80 :: List.replicate 63 0 := by
  decide

theorem blockAt_pad_nil : blockAt (pad []) 0 = Statements.emptyBlock := by
  rw [pad_nil]
  decide

/-- Settles O37: the 64 bytes of `pad_nil` are one block, and the words of that block are a closed computation. -/
theorem emptyMessageBlock : Obligations.EmptyMessageBlock := by
  refine ⟨pad_nil, ?_, by decide⟩
  rw [blocks_one _ (by rw [pad_nil]; rfl), blockAt_pad_nil]

end Sys2Proof.Machine
end

section
/-! PROOF. The additive constants: how far the model's fixed-point sine is from the real one, and the table held to it. -/

namespace Sys2Proof.Machine

open Sys2Proof

/-! ## Numbers in units of 2^-80 -/

/-- The complex number a pair of integers in units of 2^-80 stands for: `cosSin n` stands for nearly exp(n·i). -/
noncomputable def ofFixed (p : ℤ × ℤ) : ℂ := ⟨p.1 / 2 ^ 80, p.2 / 2 ^ 80⟩

/-- Rounding a quotient down is at most one off. -/
theorem ediv_error (x : ℤ) (d : ℕ) : |((x / d : ℤ) : ℝ) - x / d| ≤ 1 := by
  have hfloor : ⌊(x : ℝ) / d⌋ = x / d := by rw [Int.floor_div_natCast, Int.floor_intCast]
  rw [← hfloor, abs_le]
  constructor <;> linarith [Int.floor_le ((x : ℝ) / d), Int.lt_floor_add_one ((x : ℝ) / d)]

/-- Two parts, each at most a unit off, put a number at most two units off. -/
theorem norm_le_of_parts {z : ℂ}
    (hre : |z.re * 2 ^ 80| ≤ 1) (him : |z.im * 2 ^ 80| ≤ 1) : ‖z‖ ≤ 2 / 2 ^ 80 := by
  rw [abs_mul, abs_of_pos (by positivity : (0 : ℝ) < 2 ^ 80)] at hre him
  have hparts := Complex.norm_le_abs_re_add_abs_im z
  rw [le_div_iff₀ (by positivity)]
  linarith

/-! ## The power series at 1 -/

/-- The terms 2n and 2n + 1 of the series of exp(i), rounded, are the terms `seriesAtOne` adds. -/
theorem seriesAtOne_succ_error (n : ℕ) :
    ‖ofFixed (seriesAtOne 0 (n + 1), seriesAtOne 1 (n + 1)) - ofFixed (seriesAtOne 0 n, seriesAtOne 1 n) -
      (Complex.I ^ (2 * n) / (2 * n).factorial + Complex.I ^ (2 * n + 1) / (2 * n + 1).factorial)‖ ≤ 2 / 2 ^ 80 := by
  have hterm (k : ℕ) :
      |(-1 : ℝ) ^ n * ((2 ^ 80 / (k.factorial : ℤ) : ℤ) : ℝ) - (-1) ^ n * (2 ^ 80 / k.factorial)| ≤ 1 := by
    rw [← mul_sub, abs_mul, abs_neg_one_pow, one_mul]
    have h := ediv_error (2 ^ 80) k.factorial
    rwa [Int.cast_pow, Int.cast_ofNat] at h
  have hsplit : Complex.I ^ (2 * n) / (2 * n).factorial + Complex.I ^ (2 * n + 1) / (2 * n + 1).factorial =
      (⟨(-1) ^ n / (2 * n).factorial, (-1) ^ n / (2 * n + 1).factorial⟩ : ℂ) := by
    rw [pow_succ, pow_mul, Complex.I_sq, Complex.mk_eq_add_mul_I]
    push_cast
    ring
  rw [hsplit]
  apply norm_le_of_parts
  · convert hterm (2 * n) using 2
    simp only [ofFixed, seriesAtOne, add_zero, Complex.sub_re]
    push_cast
    ring
  · convert hterm (2 * n + 1) using 2
    simp only [ofFixed, seriesAtOne, Complex.sub_im]
    push_cast
    ring

/-- So `n` terms of each series are at most two units a term off. -/
theorem seriesAtOne_error (n : ℕ) :
    ‖ofFixed (seriesAtOne 0 n, seriesAtOne 1 n) - ∑ m ∈ Finset.range (2 * n), Complex.I ^ m / m.factorial‖ ≤
      n * (2 / 2 ^ 80) := by
  induction n with
  | zero => simp [ofFixed, seriesAtOne, Complex.ext_iff]
  | succ n ih =>
    rw [show 2 * (n + 1) = 2 * n + 1 + 1 by ring, Finset.sum_range_succ, Finset.sum_range_succ]
    convert norm_add_le_of_le ih (seriesAtOne_succ_error n) using 1
    · congr 1
      ring
    · push_cast
      ring

/-- The first rotation starts at the angle 0 and so rounds nothing. -/
theorem cosSin_one : cosSin 1 = (seriesAtOne 0 16, seriesAtOne 1 16) := by
  simp [cosSin]

/-- Sixteen terms of each series: rounding leaves 32 units, and the terms left out less than one. -/
theorem cosSin_one_near_exp : ‖ofFixed (cosSin 1) - Complex.exp Complex.I‖ ≤ 33 / 2 ^ 80 := by
  have hround := seriesAtOne_error 16
  rw [← cosSin_one] at hround
  have htail : ‖∑ m ∈ Finset.range 32, Complex.I ^ m / m.factorial - Complex.exp Complex.I‖ ≤ 1 / 2 ^ 80 := by
    rw [norm_sub_rev]
    refine (Complex.exp_bound Complex.norm_I.le (by decide)).trans ?_
    rw [Complex.norm_I]
    norm_num [Nat.factorial]
  refine (norm_sub_le_norm_sub_add_norm_sub _ _ _).trans ((add_le_add hround htail).trans_eq ?_)
  norm_num

/-! ## The rotation by one radian, repeated -/

/-- The addition formulas are the product of the numbers, rounded. -/
theorem cosSin_succ_error (n : ℕ) :
    ‖ofFixed (cosSin (n + 1)) - ofFixed (cosSin n) * ofFixed (cosSin 1)‖ ≤ 2 / 2 ^ 80 := by
  have hround (x : ℤ) : |((x / 2 ^ 80 : ℤ) : ℝ) - x / 2 ^ 80| ≤ 1 := by exact_mod_cast ediv_error x (2 ^ 80)
  have hsucc : cosSin (n + 1) =
      (((cosSin n).1 * seriesAtOne 0 16 - (cosSin n).2 * seriesAtOne 1 16) / 2 ^ 80,
        ((cosSin n).1 * seriesAtOne 1 16 + (cosSin n).2 * seriesAtOne 0 16) / 2 ^ 80) := rfl
  rw [hsucc, cosSin_one]
  generalize seriesAtOne 0 16 = u, seriesAtOne 1 16 = v, cosSin n = p
  apply norm_le_of_parts
  · convert hround (p.1 * u - p.2 * v) using 2
    simp only [ofFixed, Complex.sub_re, Complex.mul_re]
    push_cast
    ring
  · convert hround (p.1 * v + p.2 * u) using 2
    simp only [ofFixed, Complex.sub_im, Complex.mul_im]
    push_cast
    ring

/-- Multiplying approximations of two numbers of the unit circle adds their errors, but for a product of the two. -/
theorem norm_mul_sub_mul_le {a b x y : ℂ} (hx : ‖x‖ = 1) (hy : ‖y‖ = 1) :
    ‖a * b - x * y‖ ≤ ‖a - x‖ + ‖b - y‖ + ‖a - x‖ * ‖b - y‖ := by
  have hsplit : a * b - x * y = (a - x) * y + x * (b - y) + (a - x) * (b - y) := by ring
  rw [hsplit]
  refine (norm_add₃_le).trans_eq ?_
  simp only [norm_mul, hx, hy, mul_one, one_mul]

/-- A radian adds 33 units for the approximation of exp(i), 2 for the rounding, and at most 1 for the product of the
errors, as the error so far is below 1/33. -/
theorem cosSin_near_exp (n : ℕ) (hn : n ≤ 64) :
    ‖ofFixed (cosSin n) - Complex.exp (n * Complex.I)‖ ≤ n * (36 / 2 ^ 80) := by
  induction n with
  | zero => norm_num [ofFixed, cosSin, Complex.ext_iff]
  | succ n ih =>
    have ih := ih (by omega)
    have hone := cosSin_one_near_exp
    have hunit : ‖Complex.exp Complex.I‖ = 1 := by simpa using Complex.norm_exp_ofReal_mul_I 1
    have hmul := norm_mul_sub_mul_le (a := ofFixed (cosSin n)) (b := ofFixed (cosSin 1))
      (Complex.norm_exp_ofReal_mul_I n) hunit
    have hexp : Complex.exp ((n + 1 : ℕ) * Complex.I) = Complex.exp (n * Complex.I) * Complex.exp Complex.I := by
      rw [← Complex.exp_add, Nat.cast_succ, add_one_mul]
    have hcross : ‖ofFixed (cosSin n) - Complex.exp (n * Complex.I)‖ *
        ‖ofFixed (cosSin 1) - Complex.exp Complex.I‖ ≤ 1 / 33 * (33 / 2 ^ 80) := by
      have hn' : (n : ℝ) ≤ 64 := by exact_mod_cast (by omega : n ≤ 64)
      refine mul_le_mul (ih.trans ?_) hone (norm_nonneg _) (by norm_num)
      linarith
    calc ‖ofFixed (cosSin (n + 1)) - Complex.exp ((n + 1 : ℕ) * Complex.I)‖
        ≤ 2 / 2 ^ 80 + (n * (36 / 2 ^ 80) + 33 / 2 ^ 80 + 1 / 33 * (33 / 2 ^ 80)) := by
          rw [hexp]
          exact (norm_sub_le_norm_sub_add_norm_sub _ _ _).trans (add_le_add (cosSin_succ_error n)
            (hmul.trans (add_le_add (add_le_add ih hone) hcross)))
      _ = (n + 1 : ℕ) * (36 / 2 ^ 80) := by
          push_cast
          ring

/-- The imaginary part of exp(n·i) is sin n. -/
theorem cosSin_near_sin (n : ℕ) (hn : n ≤ 64) : |((cosSin n).2 : ℝ) / 2 ^ 80 - Real.sin n| ≤ 2304 / 2 ^ 80 := by
  have h := (Complex.abs_im_le_norm _).trans (cosSin_near_exp n hn)
  have him : (Complex.exp (n * Complex.I)).im = Real.sin n := Complex.exp_ofReal_mul_I_im n
  have hn' : (n : ℝ) ≤ 64 := by exact_mod_cast hn
  rw [Complex.sub_im, him] at h
  refine h.trans ?_
  linarith

/-! ## The table -/

/-- R150: no entry is so near to an integer that the error of `cosSin` could change its floor. -/
theorem kConst_floor_with_margin (i : BitVec 6) :
    (kConst i).toNat * 2 ^ 48 + 2304 ≤ (cosSin (i.toNat + 1)).2.natAbs ∧
    (cosSin (i.toNat + 1)).2.natAbs + 2304 < ((kConst i).toNat + 1) * 2 ^ 48 := by
  revert i
  decide +kernel

/-- Settles O44: 2^32 |sin(i + 1)| is within 2304 · 2^-48 of what `cosSin` gives, and that is farther than this above
K[i] and below K[i] + 1. -/
theorem additiveConstantsAreSines : Obligations.AdditiveConstantsAreSines := fun i => by
  obtain ⟨hlo, hhi⟩ := kConst_floor_with_margin i
  have hsin := (abs_abs_sub_abs_le _ _).trans (cosSin_near_sin (i.toNat + 1) i.isLt)
  rify at hlo hhi
  rw [abs_div, abs_of_pos (by positivity : (0 : ℝ) < 2 ^ 80), abs_le] at hsin
  obtain ⟨hbelow, habove⟩ := hsin
  rw [eq_comm, Int.floor_eq_iff, Int.cast_natCast]
  push_cast at hbelow habove
  constructor <;> linarith

end Sys2Proof.Machine
end

section
/-! PROOF. The words of a block: four bytes side by side, the lowest offset least significant. -/

namespace Sys2Proof.Machine

open Sys2Proof

/-- A byte put below a word. -/
theorem toNat_append_byte {n : Nat} (x : BitVec n) (b : Byte) : (x ++ b).toNat = x.toNat * 2 ^ 8 + b.toNat := by
  rw [BitVec.toNat_append, ← Nat.shiftLeft_add_eq_or_of_lt b.isLt, Nat.shiftLeft_eq]

theorem blockWord_toNat (blk : Block) (j : Nat) (hj : j < 16) : (blockWord blk ⟨j, hj⟩).toNat =
    blk[4 * j].toNat + 2 ^ 8 * blk[4 * j + 1].toNat + 2 ^ 16 * blk[4 * j + 2].toNat + 2 ^ 24 * blk[4 * j + 3].toNat := by
  simp only [blockWord, toNat_append_byte]
  ring

theorem blockWord_low (blk : Block) (j : Nat) (hj : j < 16) : (blockWord blk ⟨j, hj⟩).extractLsb' 0 8 = blk[4 * j] :=
  BitVec.extractLsb'_append_eq_right

theorem blockWord_high (blk : Block) (j : Nat) (hj : j < 16) :
    (blockWord blk ⟨j, hj⟩).extractLsb' 24 8 = blk[4 * j + 3] := by
  rw [blockWord, BitVec.extractLsb'_append_eq_of_le (by decide), BitVec.extractLsb'_append_eq_of_le (by decide)]
  exact BitVec.extractLsb'_append_eq_left

/-- Settles O42: the number of a word and its outer bytes are read off the four bytes appended; in the rule's example
the number is the literal's. -/
theorem blockWordsLittleEndian : Obligations.BlockWordsLittleEndian := by
  refine ⟨fun blk j hj => ⟨blockWord_toNat blk j hj, blockWord_low blk j hj, blockWord_high blk j hj⟩, ?_⟩
  intro blk h0 h1 h2 h3
  have hword : blockWord blk 0 = blk[3] ++ blk[2] ++ blk[1] ++ blk[0] := rfl
  rw [hword, h0, h1, h2, h3]
  rfl

end Sys2Proof.Machine
end

section
/-! PROOF. The message-word index: the sub-pass is the upper two bits of the selector, and each sub-pass steps through
the sixteen words with an odd stride. -/

namespace Sys2Proof.Machine

open Sys2Proof

/-! ## The formulas (R142) -/

theorem passOf_eq_iff (i : BitVec 6) (p : Fin 4) : passOf i = p ↔ i.toNat / 16 = p.val := by
  have hlt := i.isLt
  have hval : (passOf i).val = i.toNat >>> 4 % 2 ^ 2 := BitVec.extractLsb'_toNat ..
  rw [Fin.ext_iff, hval, Nat.shiftRight_eq_div_pow]
  omega

/-- R142: the number a sub-pass multiplies the round index by. -/
def wordMultiplier (p : Fin 4) : Nat :=
  match p with
  | 0 => 1
  | 1 => 5
  | 2 => 3
  | 3 => 7

/-- R142: the number a sub-pass adds. -/
def wordOffset (p : Fin 4) : Nat :=
  match p with
  | 0 => 0
  | 1 => 1
  | 2 => 5
  | 3 => 0

theorem wordIndex_val_of_pass {i : BitVec 6} {p : Fin 4} (h : passOf i = p) :
    (wordIndex i).val = (wordMultiplier p * i.toNat + wordOffset p) % 16 := by
  rw [wordIndex, h]
  match p with
  | 0 => simp [wordMultiplier, wordOffset]
  | 1 | 2 | 3 => rfl

/-- R142: the formula of each sub-pass, in the round index. -/
theorem wordIndex_val (i : BitVec 6) : (wordIndex i).val =
    if i.toNat ≤ 15 then i.toNat else if i.toNat ≤ 31 then (5 * i.toNat + 1) % 16
    else if i.toNat ≤ 47 then (3 * i.toNat + 5) % 16 else 7 * i.toNat % 16 := by
  have hlt := i.isLt
  have hval {p : Fin 4} (h : i.toNat / 16 = p.val) := wordIndex_val_of_pass ((passOf_eq_iff i p).2 h)
  split_ifs with h0 h1 h2
  · rw [hval (p := 0) (by omega), wordMultiplier, wordOffset]
    omega
  · exact hval (p := 1) (by omega)
  · exact hval (p := 2) (by omega)
  · exact hval (p := 3) (by omega)

/-- R142: the same in the position inside the sub-pass, as multiples of 16 vanish. -/
theorem wordIndex_val_step (i : BitVec 6) : (wordIndex i).val =
    if i.toNat ≤ 15 then i.toNat % 16 else if i.toNat ≤ 31 then (5 * (i.toNat % 16) + 1) % 16
    else if i.toNat ≤ 47 then (3 * (i.toNat % 16) + 5) % 16 else 7 * (i.toNat % 16) % 16 := by
  rw [wordIndex_val]
  split_ifs <;> omega

/-! ## The permutations (R144) -/

/-- R144: the multipliers are odd, hence invertible modulo 16. -/
theorem coprime_wordMultiplier (p : Fin 4) : Nat.Coprime 16 (wordMultiplier p) := by
  revert p
  decide

/-- R144: so no word is met twice in the sixteen rounds of a sub-pass. -/
theorem wordIndex_injective (p : Fin 4) :
    Function.Injective fun q : Fin 16 => wordIndex (BitVec.ofNat 6 (16 * p.val + q.val)) := by
  have hnat (q : Fin 16) : (BitVec.ofNat 6 (16 * p.val + q.val)).toNat = 16 * p.val + q.val := by
    rw [BitVec.toNat_ofNat]
    omega
  have hpass (q : Fin 16) : passOf (BitVec.ofNat 6 (16 * p.val + q.val)) = p := by
    rw [passOf_eq_iff, hnat]
    omega
  intro q r h
  have hmod : wordMultiplier p * (16 * p.val + q.val) + wordOffset p ≡
      wordMultiplier p * (16 * p.val + r.val) + wordOffset p [MOD 16] := by
    have h := congrArg Fin.val h
    rwa [wordIndex_val_of_pass (hpass q), wordIndex_val_of_pass (hpass r), hnat, hnat] at h
  have hqr : q.val ≡ r.val [MOD 16] :=
    ((hmod.add_right_cancel' _).cancel_left_of_coprime (coprime_wordMultiplier p)).add_left_cancel' _
  exact Fin.ext (hqr.eq_of_lt_of_lt q.isLt r.isLt)

/-- R144: a map of sixteen words to sixteen that meets none twice meets each once. -/
theorem wordIndex_existsUnique (p : Fin 4) (j : Fin 16) :
    ∃! q : Fin 16, wordIndex (BitVec.ofNat 6 (16 * p.val + q.val)) = j :=
  (Finite.injective_iff_bijective.1 (wordIndex_injective p)).existsUnique j

/-- R143: the formulas evaluated. -/
theorem wordIndex_table : ((List.range 64).map fun n => (wordIndex (BitVec.ofNat 6 n)).val) =
    [0, 1, 2, 3, 4, 5, 6, 7, 8, 9, 10, 11, 12, 13, 14, 15, 1, 6, 11, 0, 5, 10, 15, 4, 9, 14, 3, 8, 13, 2, 7, 12] ++
    [5, 8, 11, 14, 1, 4, 7, 10, 13, 0, 3, 6, 9, 12, 15, 2, 0, 7, 14, 5, 12, 3, 10, 1, 8, 15, 6, 13, 4, 11, 2, 9] := by
  decide

/-- R144: the four uses of a word, counted in the table. -/
theorem wordIndex_countP (j : Fin 16) : ((List.range 64).countP fun n => wordIndex (BitVec.ofNat 6 n) == j) = 4 := by
  have hcount : ((List.range 64).countP fun n => wordIndex (BitVec.ofNat 6 n) == j) =
      ((List.range 64).map fun n => (wordIndex (BitVec.ofNat 6 n)).val).count j.val := by
    rw [List.count, List.countP_map]
    exact List.countP_congr fun n _ => by simp [Fin.ext_iff]
  rw [hcount, wordIndex_table]
  revert j
  decide

/-- Settles O43: both formulas from the sub-pass the selector names; each sub-pass is a bijection, and the uses of a word
are counted in the table. -/
theorem wordIndexSchedule : Obligations.WordIndexSchedule :=
  ⟨wordIndex_val, wordIndex_val_step, wordIndex_table, wordIndex_existsUnique, wordIndex_countP⟩

end Sys2Proof.Machine
end

section
/-! PROOF. Rotation of a word: below 32 it is the library's rotation, so every bit moves and none is lost. -/

namespace Sys2Proof.Machine

open Sys2Proof

/-- R161: for the amounts the rule speaks of, `rotl32` is rotation to the left. -/
theorem rotl32_eq_rotateLeft (x : Word) {s : Nat} (hs : s < 32) : rotl32 x s = x.rotateLeft s :=
  (BitVec.rotateLeft_eq_rotateLeftAux_of_lt hs).symm

@[simp] theorem rotl32_zero (x : Word) : rotl32 x 0 = x := by
  simp [rotl32, BitVec.ushiftRight_eq_zero]

/-- R161: the bits pushed out on the left fill just the places the shift left free, so the two parts add up. -/
theorem rotl32_toNat (x : Word) {s : Nat} (hs : s < 32) :
    (rotl32 x s).toNat = x.toNat * 2 ^ s % 2 ^ 32 + x.toNat / 2 ^ (32 - s) := by
  have hpow : 2 ^ (32 - s) * 2 ^ s = 2 ^ 32 := by
    rw [← Nat.pow_add, Nat.sub_add_cancel hs.le]
  have hhigh : x.toNat * 2 ^ s % 2 ^ 32 = (x.toNat % 2 ^ (32 - s)) <<< s := by
    rw [Nat.shiftLeft_eq, ← hpow, Nat.mul_mod_mul_right]
  have hlow : x.toNat / 2 ^ (32 - s) < 2 ^ s := by
    rw [Nat.div_lt_iff_lt_mul (Nat.two_pow_pos _), Nat.mul_comm, hpow]
    exact x.isLt
  rw [rotl32_eq_rotateLeft x hs, BitVec.toNat_rotateLeft, Nat.mod_eq_of_lt hs, Nat.shiftLeft_eq,
    Nat.shiftRight_eq_div_pow, hhigh, Nat.shiftLeft_add_eq_or_of_lt hlow]

/-- R161: bit `k` goes `s` places to the left, round the end of the word. -/
theorem rotl32_getLsbD (x : Word) {s k : Nat} (hs : s < 32) (hk : k < 32) :
    (rotl32 x s).getLsbD ((k + s) % 32) = x.getLsbD k := by
  rw [rotl32_eq_rotateLeft x hs, BitVec.getLsbD_rotateLeft_of_le hs]
  rcases Nat.lt_or_ge (k + s) 32 with hin | hout
  · have hplace : (k + s) % 32 = k + s := Nat.mod_eq_of_lt hin
    simp [hplace, hin]
  · have hplace : (k + s) % 32 = k + s - 32 := by omega
    have hlt : k + s - 32 < s := by omega
    have hback : 32 - s + (k + s - 32) = k := by omega
    simp [hplace, hlt, hback]

/-- The places the bits go to, in the order of the bits, are the places 0 to n-1 taken from `s` on. -/
theorem map_add_mod_range (n s : Nat) : ((List.range n).map fun k => (k + s) % n) = (List.range n).rotate s :=
  List.ext_getElem (by simp) fun k _ _ => by simp [List.getElem_rotate]

/-- R161: the 1 bits are counted where they went, as every place is filled once. -/
theorem rotl32_countP (x : Word) {s : Nat} (hs : s < 32) :
    ((List.range 32).countP fun k => (rotl32 x s).getLsbD k) = (List.range 32).countP fun k => x.getLsbD k := by
  rw [← ((List.range 32).rotate_perm s).countP_eq, ← map_add_mod_range, List.countP_map]
  refine List.countP_congr fun k hk => ?_
  rw [Function.comp_apply, rotl32_getLsbD x hs (List.mem_range.1 hk)]

/-- R148: the sixteen amounts of the table. -/
theorem rotationRow_bounds : ∀ p low : Fin 4, 4 ≤ rotationRow p low ∧ rotationRow p low ≤ 23 := by
  decide

/-- Settles O40: the formula, the bits and their number for rotation below 32; the amounts are rows of the table, and the
rule's examples are closed computations. -/
theorem rotationIsCircular : Obligations.RotationIsCircular := by
  refine ⟨fun x s hs => ?_, rotl32_zero, fun i => rotationRow_bounds _ _, by decide⟩
  have hlt : s < 32 := Nat.lt_succ_of_le hs
  exact ⟨rotl32_toNat x hlt, fun k => rotl32_getLsbD x hlt, rotl32_countP x hlt⟩

end Sys2Proof.Machine
end

section
/-! PROOF. The mixing functions bit by bit, and the sub-pass that uses each. -/

namespace Sys2Proof.Machine

open Sys2Proof

/-- R164: `x` selects between `y` and `z`. -/
theorem mixF_getLsbD (x y z : Word) {k : Nat} (hk : k < 32) :
    (mixF x y z).getLsbD k = if x.getLsbD k then y.getLsbD k else z.getLsbD k := by
  simp only [mixF, BitVec.getLsbD_or, BitVec.getLsbD_and, BitVec.getLsbD_not, hk]
  cases x.getLsbD k <;> simp

/-- R165: `mixG` is `mixF` with the selecting word last. -/
theorem mixG_eq_mixF (x y z : Word) : mixG x y z = mixF z x y := by
  rw [mixG, mixF, BitVec.and_comm x z, BitVec.and_comm y]

/-- R165: `z` selects between `x` and `y`. -/
theorem mixG_getLsbD (x y z : Word) {k : Nat} (hk : k < 32) :
    (mixG x y z).getLsbD k = if z.getLsbD k then x.getLsbD k else y.getLsbD k := by
  rw [mixG_eq_mixF, mixF_getLsbD z x y hk]

/-- R166: the parity of the three bits. -/
theorem mixH_getLsbD (x y z : Word) (k : Nat) :
    (mixH x y z).getLsbD k = (x.getLsbD k ^^ y.getLsbD k ^^ z.getLsbD k) := by
  simp [mixH]

/-- R167: the bit of `y`, turned over where `x` is 1 or `z` is 0. -/
theorem mixI_getLsbD (x y z : Word) {k : Nat} (hk : k < 32) :
    (mixI x y z).getLsbD k = (y.getLsbD k ^^ (x.getLsbD k || !z.getLsbD k)) := by
  simp [mixI, hk]

/-- R168: the sub-pass is the upper two bits of the selector and names the mixing function. -/
theorem mixOf_passOf (i : BitVec 6) : mixOf (passOf i) =
    if i.toNat / 16 = 0 then mixF else if i.toNat / 16 = 1 then mixG else if i.toNat / 16 = 2 then mixH else mixI := by
  have hpass : i.toNat / 16 = (passOf i).val := (passOf_eq_iff i _).1 rfl
  rw [hpass]
  match passOf i with
  | 0 | 1 | 2 | 3 => rfl

/-- Settles O41: each function bit by bit and the identity between the two that select; the words of the rules' examples
are closed computations. -/
theorem mixingTruthTables : Obligations.MixingTruthTables :=
  ⟨fun x y z k hk => ⟨mixF_getLsbD x y z hk, mixG_getLsbD x y z hk, mixH_getLsbD x y z k, mixI_getLsbD x y z hk⟩,
    mixG_eq_mixF, by decide, by decide, by decide, by decide, by decide, by decide, by decide, by decide, mixOf_passOf⟩

end Sys2Proof.Machine
end

section
/-! PROOF. The rounds without register rotation: one new value a round, and where the other three stand after it. -/

namespace Sys2Proof.Machine

open Sys2Proof

/-- R169: the one new value of round `i`: `v` is the value it replaces, (x, y, z) are the other three. -/
def newValue (i : BitVec 6) (blk : Block) (x y z v : Word) : Word :=
  x + rotl32 (v + mixOf (passOf i) x y z + kConst i + blockWord blk (wordIndex i)) (rotation i)

/-- R174: a round moves three values one place along and puts the new value in `b`. -/
theorem round_eq_newValue (i : BitVec 6) (blk : Block) (a b c d : Word) :
    round i blk #v[a, b, c, d] = #v[d, newValue i blk b c d a, b, c] := rfl

/-- The registers by their names. -/
theorem regs_eta (w : Regs) : w = #v[w[0], w[1], w[2], w[3]] := by
  ext j hj
  match j with
  | 0 | 1 | 2 | 3 => rfl

/-- R174: after four rounds every value is back in its own place and each was replaced once, in the order a, d, c, b. -/
theorem fourRounds_eq (i₀ i₁ i₂ i₃ : BitVec 6) (blk : Block) (a b c d : Word) :
    let a' := newValue i₀ blk b c d a
    let d' := newValue i₁ blk a' b c d
    let c' := newValue i₂ blk d' a' b c
    let b' := newValue i₃ blk c' d' a' b
    round i₃ blk (round i₂ blk (round i₁ blk (round i₀ blk #v[a, b, c, d]))) = #v[a', b', c', d'] := by
  simp only [round_eq_newValue]

/-- Settles O55: the moves are read off one round, and four rounds replace each value once, as the form in place does. -/
theorem unrotatedRoundsAgree : Obligations.UnrotatedRoundsAgree := by
  refine ⟨fun i blk w => ⟨rfl, rfl, rfl⟩, fun q blk w _ => ?_⟩
  have hrounds := fourRounds_eq (BitVec.ofNat 6 (4 * q)) (BitVec.ofNat 6 (4 * q + 1)) (BitVec.ofNat 6 (4 * q + 2))
    (BitVec.ofNat 6 (4 * q + 3)) blk w[0] w[1] w[2] w[3]
  rw [← regs_eta w] at hrounds
  exact hrounds

end Sys2Proof.Machine
end

section
/-! PROOF. The listing of the 64 rounds: a row holds when its operands are those of the tables and its example is that
round on the words of the empty message's block. -/

namespace Sys2Proof.Machine

open Sys2Proof Sys2Proof.Statements

/-- R124: the block of the examples has one word that is not zero. -/
theorem blockWord_emptyBlock (j : Fin 16) : blockWord emptyBlock j = if j = 0 then 0x00000080 else 0 := by
  obtain ⟨_, _, hwords⟩ := emptyMessageBlock
  exact hwords j

/-- The instruction, fields and operands that a row of the listing gives are those that the decoder and the tables give
for its selector (R101, R100, R150, R142, R148). -/
abbrev OperandsAgree (sel : BitVec 6) (i : Instr) (pass : Fin 4) (pos : Fin 16) (k : Word) (j : Fin 16) (r : Nat) :
    Prop :=
  decodeSelector sel = i ∧ passOf sel = pass ∧ stepOf sel = pos ∧ kConst sel = k ∧ wordIndex sel = j ∧ rotation sel = r

/-- A row's worked example: the mixing value, the message word and the output are those of the row's operands, and
`temp` stands in `b` of the output. -/
abbrev ExampleAgrees (mix : Word → Word → Word → Word) (k : Word) (j : Fin 16) (r : Nat) (inp : Regs) (mv mw temp : Word)
    (out : Regs) : Prop :=
  mix inp[1] inp[2] inp[3] = mv ∧ (if j = 0 then 0x00000080 else 0) = mw ∧ roundWith mix k mw r inp = out ∧ out[1] = temp

/-- R169: a round is `roundWith` of the operands its row lists. -/
theorem round_eq_roundWith {sel : BitVec 6} {i : Instr} {pass : Fin 4} {pos j : Fin 16} {k : Word} {r : Nat}
    (hops : OperandsAgree sel i pass pos k j r) (blk : Block) (w : Regs) :
    round sel blk w = roundWith (mixOf pass) k (blockWord blk j) r w := by
  obtain ⟨_, hpass, _, hk, hj, hr⟩ := hops
  rw [round, hpass, hk, hj, hr]

/-- A row of the listing from its operands and its example. -/
theorem roundListed_of_agree {sel : BitVec 6} {i : Instr} {pass : Fin 4} {pos j : Fin 16}
    {mix : Word → Word → Word → Word} {k mv mw temp : Word} {r : Nat} {inp out : Regs} (hmix : mixOf pass = mix)
    (hops : OperandsAgree sel i pass pos k j r) (hex : ExampleAgrees mix k j r inp mv mw temp out) :
    RoundListed sel i pass pos mix k j r inp mv mw temp out := by
  subst hmix
  have hround := round_eq_roundWith hops
  obtain ⟨hi, hpass, hpos, _⟩ := hops
  obtain ⟨hmv, hmw, hout, htemp⟩ := hex
  rw [← blockWord_emptyBlock] at hmw
  refine ⟨congrArg Except.ok hi, hpass, hpos, fun blk a b c d => hround blk _, hmv, hmw, ?_, htemp⟩
  rw [hround, hmw, hout]

/-- Settles O45: the first rows of sub-pass 0, with F. In each row the operands are compared with the tables' entries and
the example is a closed computation on four words. -/
theorem rounds0To7AsListed : Obligations.Rounds0To7AsListed := by
  refine ⟨?_, ?_, ?_, ?_, ?_, ?_, ?_, ?_⟩ <;>
    exact roundListed_of_agree rfl (by decide) (by decide)

/-- Settles O46: the later rows of sub-pass 0, with F, by the same comparison row by row. -/
theorem rounds8To15AsListed : Obligations.Rounds8To15AsListed := by
  refine ⟨?_, ?_, ?_, ?_, ?_, ?_, ?_, ?_⟩ <;>
    exact roundListed_of_agree rfl (by decide) (by decide)

/-- Settles O47: the first rows of sub-pass 1, with G, by the same comparison row by row. -/
theorem rounds16To23AsListed : Obligations.Rounds16To23AsListed := by
  refine ⟨?_, ?_, ?_, ?_, ?_, ?_, ?_, ?_⟩ <;>
    exact roundListed_of_agree rfl (by decide) (by decide)

/-- Settles O48: the later rows of sub-pass 1, with G, by the same comparison row by row. -/
theorem rounds24To31AsListed : Obligations.Rounds24To31AsListed := by
  refine ⟨?_, ?_, ?_, ?_, ?_, ?_, ?_, ?_⟩ <;>
    exact roundListed_of_agree rfl (by decide) (by decide)

/-- Settles O49: the first rows of sub-pass 2, with H, by the same comparison row by row. -/
theorem rounds32To39AsListed : Obligations.Rounds32To39AsListed := by
  refine ⟨?_, ?_, ?_, ?_, ?_, ?_, ?_, ?_⟩ <;>
    exact roundListed_of_agree rfl (by decide) (by decide)

/-- Settles O50: the later rows of sub-pass 2, with H, by the same comparison row by row. -/
theorem rounds40To47AsListed : Obligations.Rounds40To47AsListed := by
  refine ⟨?_, ?_, ?_, ?_, ?_, ?_, ?_, ?_⟩ <;>
    exact roundListed_of_agree rfl (by decide) (by decide)

/-- Settles O51: the first rows of sub-pass 3, with I, by the same comparison row by row. -/
theorem rounds48To55AsListed : Obligations.Rounds48To55AsListed := by
  refine ⟨?_, ?_, ?_, ?_, ?_, ?_, ?_, ?_⟩ <;>
    exact roundListed_of_agree rfl (by decide) (by decide)

/-- Settles O52: the later rows of sub-pass 3, with I, by the same comparison row by row. -/
theorem rounds56To63AsListed : Obligations.Rounds56To63AsListed := by
  refine ⟨?_, ?_, ?_, ?_, ?_, ?_, ?_, ?_⟩ <;>
    exact roundListed_of_agree rfl (by decide) (by decide)

end Sys2Proof.Machine
end

section
/-! PROOF. The finalizer: the characters of Hex and their order, and that neither Serialize nor Hex loses a bit. -/

namespace Sys2Proof.Machine

open Sys2Proof Sys2Proof.Statements

/-! ## The digits, and where they stand -/

/-- R272: the two ranges of codes are the sixteen characters in their order. -/
theorem hexDigit_eq_ascii : ∀ v : BitVec 4, some (hexDigit v) = (ascii "0123456789abcdef")[v.toNat]? := by decide

theorem hexDigit_injective : Function.Injective hexDigit := by
  unfold Function.Injective
  decide

/-- R273: the first character of byte `n` is the digit of its high four bits. -/
theorem hex_getElem_high (d : Vector Byte 16) (n : Nat) (hn : n < 16) :
    (hex d)[2 * n] = hexDigit (d[n].extractLsb' 4 4) := by
  have hbyte : 2 * n / 2 = n := by omega
  have hhalf : 2 * n % 2 = 0 := by omega
  simp only [hex, Vector.getElem_ofFn, hbyte, hhalf, if_true]

/-- R273: the second character of byte `n` is the digit of its low four bits. -/
theorem hex_getElem_low (d : Vector Byte 16) (n : Nat) (hn : n < 16) :
    (hex d)[2 * n + 1] = hexDigit (d[n].extractLsb' 0 4) := by
  have hbyte : (2 * n + 1) / 2 = n := by omega
  have hhalf : (2 * n + 1) % 2 ≠ 0 := by omega
  simp only [hex, Vector.getElem_ofFn, hbyte, if_neg hhalf]

/-- Settles O57: the sixteen digits are compared one by one, the order of the two halves is `hex_getElem_high` and
`hex_getElem_low`, and the example is a closed computation on 16 bytes. -/
theorem hexDigitsHighFirst : Obligations.HexDigitsHighFirst :=
  ⟨hexDigit_eq_ascii, fun d n hn => ⟨hex_getElem_high d n hn, hex_getElem_low d n hn⟩, by decide⟩

/-! ## Nothing is lost -/

/-- A bit vector is known from its slices of `m` bits, when `n` of them cover it: bit `i` is bit `i % m` of slice
`i / m`. -/
theorem eq_of_slices_eq {w : Nat} (n m : Nat) (hcover : w ≤ m * n) {x y : BitVec w}
    (h : ∀ k < n, x.extractLsb' (m * k) m = y.extractLsb' (m * k) m) : x = y := by
  refine BitVec.eq_of_getLsbD_eq fun i hi => ?_
  have hslice : i / m < n := Nat.div_lt_of_lt_mul (hi.trans_le hcover)
  have hm : 0 < m := Nat.pos_of_mul_pos_right (by omega : 0 < m * n)
  have hbit := congrArg (·.getLsbD (i % m)) (h _ hslice)
  simpa [BitVec.getLsbD_extractLsb', Nat.mod_lt i hm, Nat.div_add_mod] using hbit

/-- R275: two states with the same digest have the same four bytes in each word. -/
theorem serialize_injective : Function.Injective serialize := fun x y hxy =>
  Vector.ext fun w hw => eq_of_slices_eq 4 8 (by decide) fun k hk => by
    have hbyte : (serialize x)[4 * w + k] = (serialize y)[4 * w + k] := by rw [hxy]
    rwa [serialize_getElem_word x w k hw hk, serialize_getElem_word y w k hw hk] at hbyte

theorem byteOf_append_zero {n : Nat} (x : BitVec n) (b : Byte) : byteOf (x ++ b) 0 = b :=
  BitVec.extractLsb'_append_eq_right

/-- A byte put below a word moves the word's own bytes one place up. -/
theorem byteOf_append_succ {n : Nat} (x : BitVec n) (b : Byte) (k : Nat) :
    byteOf (x ++ b) (k + 1) = byteOf x k := by
  rw [byteOf, BitVec.extractLsb'_append_eq_of_le (by omega), byteOf, Nat.mul_succ, Nat.add_sub_cancel]

/-- The state a digest stands for: word `w` is bytes `4w` to `4w + 3`, the first least significant (R55). -/
def deserialize (d : Vector Byte 16) : Regs :=
  Vector.ofFn fun w => d[4 * w.val + 3] ++ d[4 * w.val + 2] ++ d[4 * w.val + 1] ++ d[4 * w.val]

theorem byteOf_deserialize (d : Vector Byte 16) (w k : Nat) (hw : w < 4) (hk : k < 4) :
    byteOf (deserialize d)[w] k = d[4 * w + k] := by
  rw [deserialize, Vector.getElem_ofFn]
  match k with
  | 0 => exact byteOf_append_zero _ _
  | 1 => rw [byteOf_append_succ, byteOf_append_zero]
  | 2 => rw [byteOf_append_succ, byteOf_append_succ, byteOf_append_zero]
  | 3 => rw [byteOf_append_succ, byteOf_append_succ, byteOf_append_succ]; exact BitVec.extractLsb'_eq_self

/-- R275: every 16 bytes are the digest of the state they stand for. -/
theorem serialize_deserialize (d : Vector Byte 16) : serialize (deserialize d) = d :=
  Vector.ext fun n hn => by
    simp only [serialize_getElem, byteOf_deserialize d (n / 4) (n % 4) (by omega) (by omega), Nat.div_add_mod]

/-- R275: two digests with the same characters have the same two halves in each byte. -/
theorem hex_injective : Function.Injective hex := fun x y hxy =>
  Vector.ext fun n hn => eq_of_slices_eq 2 4 (by decide) fun k hk => hexDigit_injective <| by
    match k with
    | 0 => rw [← hex_getElem_low x n hn, ← hex_getElem_low y n hn, hxy]
    | 1 => rw [← hex_getElem_high x n hn, ← hex_getElem_high y n hn, hxy]

/-- Settles O58: equal results have equal slices, so neither map confuses two inputs, and `deserialize` gives every
16-byte string its state. -/
theorem finalizerLosesNothing : Obligations.FinalizerLosesNothing :=
  ⟨⟨serialize_injective, fun d => ⟨deserialize d, serialize_deserialize d⟩⟩, hex_injective⟩

end Sys2Proof.Machine
end

section
/-! PROOF. The order of the checks on a presented command word. -/

namespace Sys2Proof.Machine

open Sys2Proof

theorem execWord_of_decode {cw : BitVec 10} {i : Instr} (h : decodeCommand cw = .ok i) (s : State) :
    execWord (.command cw) s = exec i s := by
  simp only [execWord, decode, h]

/-- R290: whatever a command word does, it does behind the guard on ERR. -/
theorem execWord_command_guarded (cw : BitVec 10) :
    ∃ effect : State → State, ∀ s, execWord (.command cw) s = .next (unlessFaulted effect s) := by
  by_cases hill : illegalWord cw = true
  · exact ⟨raiseFault .illegalCommand, execWord_illegal hill⟩
  · cases hd : decodeCommand cw with
    | error e => exact absurd ((illegalWord_iff_no_operation cw).2 (.inl ⟨e, hd⟩)) hill
    | ok i =>
      obtain ⟨rfl, _⟩ | ⟨rfl, _⟩ | ⟨rfl, _⟩ | ⟨_, h⟩ := decodeCommand_cases cw i hd
      · exact ⟨initEffect 0, execWord_of_decode hd⟩
      · exact ⟨finalEffect 0, execWord_of_decode hd⟩
      · exact ⟨updateEffect (dataField cw), execWord_of_decode hd⟩
      · exact absurd h hill

/-- R290, R326: the first check. -/
theorem execWord_of_err {s : State} (h : s.err = true) (cw : BitVec 10) : execWord (.command cw) s = .next s := by
  obtain ⟨effect, heffect⟩ := execWord_command_guarded cw
  rw [heffect, unlessFaulted_of_err h]

/-- R84: a word that is not illegal has data 0 where op is that of INIT or FINAL. -/
theorem dataField_of_legal {cw : BitVec 10} (hlegal : illegalWord cw = false)
    (hop : opField cw = 0b00 ∨ opField cw = 0b10) : dataField cw = 0#8 := by
  by_contra hdata
  have hill : illegalWord cw = true := (illegalWord_iff cw).2 (.inr ⟨hop, hdata⟩)
  exact Bool.false_ne_true (hlegal.symm.trans hill)

/-- Settles O9: with ERR = 1 the guard on every command word keeps the state; an illegal word faults by
`illegalWordsFault`; a legal one decodes to the operation of its op field, as its data is 0 where it has to be. -/
theorem commandChecksInOrder : Obligations.CommandChecksInOrder := fun s cw => by
  obtain ⟨_, _, _, hfault⟩ := illegalWordsFault
  refine ⟨fun herr => execWord_of_err herr cw, hfault s cw, fun _ hlegal =>
    ⟨fun hop => ?_, fun hop => ?_, fun hop => ?_⟩⟩
  · exact execWord_of_decode ((decodeCommand_eq_init_iff cw).2 ⟨hop, dataField_of_legal hlegal (.inl hop)⟩) s
  · exact execWord_of_decode ((decodeCommand_eq_update_iff cw).2 hop) s
  · exact execWord_of_decode ((decodeCommand_eq_final_iff cw).2 ⟨hop, dataField_of_legal hlegal (.inr hop)⟩) s

end Sys2Proof.Machine
end

section
/-! PROOF. The five known digests, each of a message that its padding makes one block of. -/

namespace Sys2Proof.Machine

open Sys2Proof Sys2Proof.Statements

/-- R121, R178: up to 55 bytes the fold is one compression from IV. -/
theorem md5_of_short {m : List Byte} (h : m.length ≤ 55) :
    md5 m = hex (serialize (compress iv (blockAt (pad m) 0))) := by
  have hone : (pad m).length = 64 := by
    rw [pad_length_eq_blocks]
    omega
  rw [md5, fold_one iv hone]

/-- A short message's digest, by way of the state words `w` that its compression leaves in H. -/
theorem md5_toList_of_compress {m codes : List Byte} (w : Regs) (hshort : m.length ≤ 55)
    (hw : compress iv (blockAt (pad m) 0) = w) (hcodes : (hex (serialize w)).toList = codes) :
    (md5 m).toList = codes := by
  rw [md5_of_short hshort, hw, hcodes]

/-- Settles O59: each message is short, so its digest is one compression, a closed computation of 64 rounds that the
kernel runs, and the 32 characters of the four words it gives. -/
theorem knownDigests : Obligations.KnownDigests :=
  ⟨md5_toList_of_compress #v[0xd98c1dd4, 0x04b2008f, 0x980980e9, 0x7e42f8ec] (by decide) (by decide +kernel) (by decide),
    md5_toList_of_compress #v[0xb975c10c, 0xa8b6f1c0, 0xe299c331, 0x61267769] (by decide) (by decide +kernel) (by decide),
    md5_toList_of_compress #v[0x98500190, 0xb04fd23c, 0x7d3f96d6, 0x727fe128] (by decide) (by decide +kernel) (by decide),
    md5_toList_of_compress #v[0x7d696bf9, 0x8d93b77c, 0x312f5a52, 0xd061f1aa] (by decide) (by decide +kernel) (by decide),
    md5_toList_of_compress #v[0xd7d3fcc3, 0x00e49261, 0x6c49fb7d, 0x3be167ca] (by decide) (by decide +kernel) (by decide)⟩

end Sys2Proof.Machine
end

section
/-! PROOF. Several instances: no step stops, so a schedule always runs on, and a step of one instance writes only its own
place in the product. -/

namespace Sys2Proof.Machine

open Sys2Proof

/-! ## No step stops -/

theorem execWord_answers_next (w : PortWord) (s : State) : ∃ t, execWord w s = .next t := by
  cases w with
  | command cw =>
    obtain ⟨effect, heffect⟩ := execWord_command_guarded cw
    exact ⟨_, heffect s⟩
  | selector i => exact ⟨_, exec_decodeSelector i s⟩

theorem perform_answers_next (x : HostStep) (s : State) : ∃ t, perform x s = .next t := by
  cases x with
  | reset _ => exact ⟨_, rfl⟩
  | present w => exact execWord_answers_next w s
  | readStatus => exact ⟨_, rfl⟩
  | readDigest => exact ⟨_, rfl⟩
  | readHex => exact ⟨_, rfl⟩

/-- R302. -/
theorem step_answers_next (s : State) : ∃ t, step s = .next t := by
  cases hp : s.pending with
  | nil => exact ⟨s, by simp [step, hp]⟩
  | cons x rest =>
    rw [step_of_pending hp]
    exact perform_answers_next x (s.setPending rest)

/-! ## Steps and schedules of the product -/

theorem stepInstance_of_step {ni : Nat} {k : Fin ni} {v : Instances ni} {t : State} (h : step v[k] = .next t) :
    stepInstance k v = .next (v.set k.val t) := by
  simp only [stepInstance, h]

theorem runSchedule_cons_of_step {ni : Nat} {k : Fin ni} {v : Instances ni} {t : State} (h : step v[k] = .next t)
    (rest : List (Fin ni)) : runSchedule (k :: rest) v = runSchedule rest (v.set k.val t) := by
  simp only [runSchedule, stepInstance_of_step h]

/-- R338: an instance's own run, as often as a schedule names it, is the same before the schedule's first step and
after it, whichever instance takes that step. -/
theorem run_count_cons_of_step {ni : Nat} {k : Fin ni} {v : Instances ni} {t : State} (h : step v[k] = .next t)
    (rest : List (Fin ni)) (j : Fin ni) :
    Host.Core.run core ((k :: rest).count j) v[j] = Host.Core.run core (rest.count j) (v.set k.val t)[j] := by
  by_cases hjk : k = j
  · subst hjk
    have hself : (v.set k.val t)[k] = t := Vector.getElem_set_self k.isLt
    rw [List.count_cons_self, run_succ_of_step h, hself]
  · have hother : (v.set k.val t)[j] = v[j] := Vector.getElem_set_ne k.isLt j.isLt (Fin.val_ne_of_ne hjk)
    rw [List.count_cons_of_ne hjk, hother]

/-- Settles O60, by induction on the schedule: its first step answers a next state, and the product after that step
gives each instance the rest of its own run. -/
theorem instancesRunAlone : Obligations.InstancesRunAlone := by
  intro ni schedule
  induction schedule with
  | nil => exact fun v => ⟨v, rfl, fun k => run_zero v[k]⟩
  | cons k rest ih =>
    intro v
    obtain ⟨t, hstep⟩ := step_answers_next v[k]
    obtain ⟨u, hrest, hown⟩ := ih (v.set k.val t)
    refine ⟨u, ?_, fun j => ?_⟩
    · rw [runSchedule_cons_of_step hstep, hrest]
    · rw [run_count_cons_of_step hstep, hown j]

end Sys2Proof.Machine
end

section
/-! PROOF. RESET and INIT compared: the writes of INIT behind its guard, field by field beside those of RESET. -/

namespace Sys2Proof.Machine

open Sys2Proof

/-! ## The writes of INIT -/

@[simp] theorem startMessage_h (s : State) : (startMessage s).h = iv := rfl
@[simp] theorem startMessage_len (s : State) : (startMessage s).len = 0 := rfl
@[simp] theorem startMessage_phase (s : State) : (startMessage s).phase = .absorb := rfl
@[simp] theorem startMessage_err (s : State) : (startMessage s).err = s.err := rfl
@[simp] theorem startMessage_errCode (s : State) : (startMessage s).errCode = s.errCode := rfl

/-- R291: an accepted INIT. -/
theorem exec_init_of_ok {s : State} (h : s.err = false) : exec (.init 0) s = .next (startMessage s) := by
  rw [exec_init, unlessFaulted_of_ok h, initEffect_zero]

/-- R290: a faulted engine ignores INIT, whatever its data. -/
theorem exec_init_of_err {s : State} (h : s.err = true) (data : Byte) : exec (.init data) s = .next s := by
  rw [exec_init, unlessFaulted_of_err h]

/-- Settles O20: INIT and RESET write the same H, LEN and PHASE; INIT keeps ERR and ERRCODE, which the premises hold at
the values RESET writes. With ERR = 1 the guard keeps the state from INIT, and RESET has no guard. -/
theorem resetAndInitCompared : Obligations.ResetAndInitCompared := by
  refine fun s => ⟨fun herr hcode => ⟨startMessage s, exec_init_of_ok herr, ?_⟩,
    fun herr => ⟨exec_init_of_err herr 0, ?_⟩⟩
  · simp [herr, hcode]
  · simp

end Sys2Proof.Machine
end

section
/-! PROOF. The words of both maps and their instructions: the two directions of the round trip, the words written out,
and the words of the textual lines. -/

namespace Sys2Proof.Machine

open Sys2Proof

/-! ## From the instruction to its word and back -/

/-- R82: a command word made of an op field and a data field decodes by the two as they stand. -/
theorem decodeCommand_append_update (data : Byte) : decodeCommand (0b01#2 ++ data) = .ok (.update data) := by
  have h := (decodeCommand_eq_update_iff (0b01#2 ++ data)).2 (opField_append _ _)
  rwa [dataField_append] at h

theorem decodeCommand_append_reserved (data : Byte) : decodeCommand (0b11#2 ++ data) = .ok (.reserved data) :=
  (decodeCommand_eq_reserved_iff _ data).2 ⟨opField_append _ _, (dataField_append _ _).symm⟩

theorem decodeCommand_initWord : decodeCommand 0x000#10 = .ok (.init 0) :=
  (decodeCommand_eq_init_iff _).2 ⟨opField_append 0b00#2 0#8, dataField_append 0b00#2 0#8⟩

theorem decodeCommand_finalWord : decodeCommand 0x200#10 = .ok (.final 0) :=
  (decodeCommand_eq_final_iff _).2 ⟨opField_append 0b10#2 0#8, dataField_append 0b10#2 0#8⟩

/-- R81, R84: a well-formed INIT or FINAL has data 0. -/
theorem wf_init_iff (data : Byte) : (Instr.init data).wf = true ↔ data = 0#8 := beq_iff_eq

theorem wf_final_iff (data : Byte) : (Instr.final data).wf = true ↔ data = 0#8 := beq_iff_eq

/-- Settles O2, row by row: a command row by the fields of its word, a round row by its place in the list of rounds. -/
theorem decodeInvertsEncode : Obligations.DecodeInvertsEncode := by
  intro i hwf
  cases i with
  | init data =>
    obtain rfl := (wf_init_iff data).1 hwf
    exact decodeCommand_initWord
  | update data => exact decodeCommand_append_update data
  | final data =>
    obtain rfl := (wf_final_iff data).1 hwf
    exact decodeCommand_finalWord
  | reserved data => exact decodeCommand_append_reserved data
  | _ => rfl

/-! ## From the word to its instruction and back -/

theorem commandWord_eq_append {cw : BitVec 10} {op : BitVec 2} {data : Byte} (hop : opField cw = op)
    (hdata : dataField cw = data) : op ++ data = cw := by
  rw [commandWord_eq_iff, opField_append, dataField_append]
  exact ⟨hop.symm, hdata.symm⟩

theorem encode_of_decodeCommand {cw : BitVec 10} {i : Instr} (h : decodeCommand cw = .ok i) :
    encode i = .command cw ∧ i.wf = true := by
  rcases decodeCommand_outcomes cw with ⟨hop, hdata, hd⟩ | ⟨_, _, hd⟩ | ⟨hop, hd⟩ | ⟨hop, hdata, hd⟩ | ⟨_, _, hd⟩ |
    ⟨hop, hd⟩ <;> rw [hd] at h <;> cases h
  · exact ⟨congrArg PortWord.command (commandWord_eq_append hop hdata), rfl⟩
  · exact ⟨congrArg PortWord.command (commandWord_eq_append hop rfl), rfl⟩
  · exact ⟨congrArg PortWord.command (commandWord_eq_append hop hdata), rfl⟩
  · exact ⟨congrArg PortWord.command (commandWord_eq_append hop rfl), rfl⟩

/-- R101: each of the 64 selectors is the word of its round. -/
theorem encode_decodeSelector : ∀ i : BitVec 6,
    encode (decodeSelector i) = .selector i ∧ (decodeSelector i).wf = true := by
  decide

/-- Settles O3: a command word is its two fields, which the decoder's outcome fixes; the selectors are compared one by
one. -/
theorem decodedWordIsEncoding : Obligations.DecodedWordIsEncoding := by
  intro w i h
  cases w with
  | command cw => exact encode_of_decodeCommand h
  | selector n =>
    obtain rfl : decodeSelector n = i := Except.ok.inj h
    exact encode_decodeSelector n

/-! ## Words written out, and the textual lines (R105) -/

/-- Settles O1: the nine words that decode are those of `encode`, read back by `decodeInvertsEncode`; the two rejected
words are closed computations on ten bits. -/
theorem writtenWordsDecode : Obligations.WrittenWordsDecode :=
  ⟨decodeInvertsEncode (.init 0) rfl, decodeInvertsEncode (.update 0x61) rfl, decodeInvertsEncode (.update 0xff) rfl,
    decodeInvertsEncode (.final 0) rfl, decodeInvertsEncode (.reserved 0) rfl, by decide, by decide,
    decodeInvertsEncode .round0 rfl, decodeInvertsEncode .round21 rfl, decodeInvertsEncode .round42 rfl,
    decodeInvertsEncode .round63 rfl⟩

/-- R105: 0x100 + byte is the word of UPDATE with that byte. -/
theorem updateWord_eq_append (b : Byte) : 0x100#10 + b.zeroExtend 10 = 0b01#2 ++ b := by
  have hb := b.isLt
  have hword : (0x100#10 + b.zeroExtend 10).toNat = 256 + b.toNat := by
    simp
    omega
  symm
  apply commandWord_eq_append
  · simp only [opField_eq_iff, hword, BitVec.reduceToNat]
    omega
  · rw [← BitVec.toNat_inj, dataField_toNat, hword]
    omega

/-- Settles O6: the lines with an operand add it to 0x100, which is the word of UPDATE; the others hold their word. -/
theorem textLinesStandForWords : Obligations.TextLinesStandForWords :=
  have hupdate (b : Byte) : HostStep.present (.command (0x100#10 + b.zeroExtend 10)) = presentInstr (.update b) :=
    congrArg (fun cw => HostStep.present (.command cw)) (updateWord_eq_append b)
  ⟨rfl, rfl, hupdate, fun c => hupdate (BitVec.ofNat 8 c.toNat), rfl, fun _ => rfl⟩

end Sys2Proof.Machine
end

section
/-! PROOF. One step, and the command rows: what each answers from ERR = 0, and what it leaves as it was. -/

namespace Sys2Proof.Machine

open Sys2Proof Sys2Proof.Statements

/-! ## One step -/

/-- A step answers one state. -/
theorem next_unique {o : Host.Outcome State Fault Refusal} {s t : State} (hs : o = .next s) (ht : o = .next t) : s = t :=
  Host.Outcome.next.inj (hs.symm.trans ht)

/-- Settles O8: `step_answers_next`. -/
theorem everyStepAnswersNext : Obligations.EveryStepAnswersNext := step_answers_next

theorem execWord_of_decode_word {w : PortWord} {i : Instr} (h : decode w = .ok i) (s : State) :
    execWord w s = exec i s := by
  simp only [execWord, h]

/-- Settles O7: a step takes the head of `pending`, and a presented word runs what it decodes to. -/
theorem stepRunsPresentedInstr : Obligations.StepRunsPresentedInstr := fun s w rest i hp hd =>
  calc step s = perform (.present w) (s.setPending rest) := step_of_pending hp
    _ = exec i { s with pending := rest } := execWord_of_decode_word hd _

/-! ## The command rows from ERR = 0 -/

theorem exec_update_of_ok {s : State} (h : s.err = false) (data : Byte) :
    exec (.update data) s = .next (updateEffect data s) := by
  rw [exec_update, unlessFaulted_of_ok h]

theorem exec_final_of_ok {s : State} (h : s.err = false) (data : Byte) :
    exec (.final data) s = .next (finalEffect data s) := by
  rw [exec_final, unlessFaulted_of_ok h]

theorem exec_update_absorb {s : State} (herr : s.err = false) (hphase : s.phase = .absorb) (data : Byte) :
    exec (.update data) s = .next (absorbByte data s) := by
  rw [exec_update_of_ok herr, updateEffect_absorb hphase]

theorem exec_update_done {s : State} (herr : s.err = false) (hphase : s.phase = .done) (data : Byte) :
    exec (.update data) s = .next (raiseFault .updateWhenDone s) := by
  rw [exec_update_of_ok herr, updateEffect_done hphase]

theorem exec_final_absorb {s : State} (herr : s.err = false) (hphase : s.phase = .absorb) :
    exec (.final 0) s = .next (finishMessage s) := by
  rw [exec_final_of_ok herr, finalEffect_absorb hphase]

theorem exec_final_done {s : State} (herr : s.err = false) (hphase : s.phase = .done) :
    exec (.final 0) s = .next (raiseFault .finalWhenDone s) := by
  rw [exec_final_of_ok herr, finalEffect_done hphase]

/-- R291: right after RESET, H, LEN and PHASE already hold what INIT writes. -/
theorem startMessage_resetEvent (s : State) : startMessage (resetEvent s) = resetEvent s := rfl

/-- Settles O10: the writes of INIT are those of `startMessage`, and its ill-formed terms raise. -/
theorem initStartsMessage : Obligations.InitStartsMessage := by
  refine ⟨fun s h => exec_init_of_ok h, fun s data h hdata => ?_, fun s => ?_⟩
  · rw [exec_init, unlessFaulted_of_ok h, initEffect_data hdata]
    rfl
  · rw [exec_init_of_ok (resetEvent_err s), startMessage_resetEvent]

/-- Settles O13: the effect of the row is `raiseFault .illegalCommand`, which writes ERR and ERRCODE only. -/
theorem reservedRowRaises : Obligations.ReservedRowRaises := fun s data h => by
  rw [exec_reserved, rejectWord_of_ok h]
  rfl

/-- Settles O11: in ABSORB the byte is stored inside its block (`absorbByte_inside`) or fills it (`absorbByte_last`); in
DONE it raises. -/
theorem updateAppendsByte : Obligations.UpdateAppendsByte := by
  refine ⟨fun s data n hn herr hphase hfill h63 => ?_, fun s data herr hphase hfill => ?_, fun s data herr hphase => ?_⟩
  · rw [exec_update_absorb herr hphase, absorbByte_inside hn hfill h63]
  · rw [exec_update_absorb herr hphase, absorbByte_last hfill]
  · exact exec_update_done herr hphase data

/-- Settles O12: in ABSORB one block (`finishMessage_one`) or two (`finishMessage_two`); in DONE, and for non-zero data,
a fault. -/
theorem finalPadsAndFolds : Obligations.FinalPadsAndFolds := by
  refine ⟨fun s blk herr hphase hfill hblk => ?_, fun s blk₁ blk₂ herr hphase hfill h₁ h₂ => ?_,
    fun s herr hphase => ?_, fun s data herr hdata => ?_⟩
  · rw [exec_final_absorb herr hphase, finishMessage_one hfill hblk]
  · rw [exec_final_absorb herr hphase, finishMessage_two hfill h₁ h₂]
  · exact exec_final_done herr hphase
  · rw [exec_final_of_ok herr, finalEffect_data hdata]
    rfl

/-! ## What the command rows leave as it was -/

/-- The model's own fields stay: `work`, `pending`, `seen`, `freeReads`. -/
abbrev KeepsModelFields (s t : State) : Prop :=
  t.work = s.work ∧ t.pending = s.pending ∧ t.seen = s.seen ∧ t.freeReads = s.freeReads

theorem keepsModelFields_raiseFault (v : Violation) (s : State) : KeepsModelFields s (raiseFault v s) :=
  ⟨rfl, rfl, rfl, rfl⟩

theorem keepsModelFields_startMessage (s : State) : KeepsModelFields s (startMessage s) := ⟨rfl, rfl, rfl, rfl⟩

theorem keepsModelFields_absorbByte (data : Byte) (s : State) : KeepsModelFields s (absorbByte data s) := by
  obtain ⟨_, _, _, hframe⟩ := absorbByte_frame data s
  exact hframe

theorem keepsModelFields_finishMessage (s : State) : KeepsModelFields s (finishMessage s) := by
  obtain ⟨_, _, _, _, hframe⟩ := finishMessage_frame s
  exact hframe

/-- R290: a guarded effect does nothing or has its effect. -/
theorem eq_or_eq_of_guarded {f : State → State} {s t : State}
    (h : (.next (unlessFaulted f s) : Host.Outcome State Fault Refusal) = .next t) : t = s ∨ t = f s := by
  obtain rfl := Host.Outcome.next.inj h
  cases herr : s.err with
  | true => exact .inl (unlessFaulted_of_err herr f)
  | false => exact .inr (unlessFaulted_of_ok herr f)

/-- R292: the one byte that UPDATE stores. -/
theorem absorbByte_buf (data : Byte) (s : State) : (absorbByte data s).buf = writeByte s.buf s.fill data := by
  unfold absorbByte
  split <;> rfl

/-- R293: with FILL ≤ 55 the marker, the zeros and the length all stand at FILL and above. -/
theorem finishMessage_buf_below {s : State} (hfill : s.fill.val ≤ 55) (j : Nat) (hj : j < 64) (hlt : j < s.fill.val) :
    (finishMessage s).buf[j] = s.buf[j] := by
  have h56 : ¬ 56 ≤ s.fill.val := by omega
  have hlen : ¬ 56 ≤ j := by omega
  have hzero : ¬ s.fill.val + 1 ≤ j := by omega
  have hmark : ¬ s.fill.val = j := by omega
  simp [finishMessage, h56, padMarker, hlen, hzero, hmark]

theorem initEffect_frame (data : Byte) (s : State) :
    (initEffect data s).buf = s.buf ∧ KeepsModelFields s (initEffect data s) := by
  unfold initEffect
  split
  · exact ⟨rfl, keepsModelFields_startMessage s⟩
  · exact ⟨rfl, keepsModelFields_raiseFault _ s⟩

theorem updateEffect_frame (data : Byte) (s : State) :
    (∀ (j : Nat) (_ : j < 64), j ≠ s.fill.val → (updateEffect data s).buf[j] = s.buf[j]) ∧
    (updateEffect data s).phase = s.phase ∧ KeepsModelFields s (updateEffect data s) := by
  unfold updateEffect
  split
  · exact ⟨fun _ _ _ => rfl, rfl, keepsModelFields_raiseFault _ s⟩
  · obtain ⟨hphase, _⟩ := absorbByte_frame data s
    refine ⟨fun j hj hne => ?_, hphase, keepsModelFields_absorbByte data s⟩
    simp only [absorbByte_buf, writeByte_getElem, if_neg hne.symm]

theorem finalEffect_frame (data : Byte) (s : State) :
    (s.fill.val ≤ 55 → ∀ (j : Nat) (_ : j < 64), j < s.fill.val → (finalEffect data s).buf[j] = s.buf[j]) ∧
    (finalEffect data s).len = s.len ∧ KeepsModelFields s (finalEffect data s) := by
  unfold finalEffect
  split
  · split
    · exact ⟨fun _ _ _ _ => rfl, rfl, keepsModelFields_raiseFault _ s⟩
    · obtain ⟨hlen, _⟩ := finishMessage_frame s
      exact ⟨finishMessage_buf_below, hlen, keepsModelFields_finishMessage s⟩
  · exact ⟨fun _ _ _ _ => rfl, rfl, keepsModelFields_raiseFault _ s⟩

/-- Settles O14: each row is a guarded effect, and both ways through the guard leave as it was what the statement
lists. -/
theorem commandRowsFrame : Obligations.CommandRowsFrame := by
  refine ⟨fun s t data h => ?_, fun s t data h => ?_, fun s t data h => ?_, fun s t data h => ?_⟩
  · obtain rfl | rfl := eq_or_eq_of_guarded (f := initEffect data) h
    · exact ⟨rfl, rfl, rfl, rfl, rfl⟩
    · exact initEffect_frame data s
  · obtain rfl | rfl := eq_or_eq_of_guarded (f := updateEffect data) h
    · exact ⟨fun _ _ _ => rfl, rfl, rfl, rfl, rfl, rfl⟩
    · exact updateEffect_frame data s
  · obtain rfl | rfl := eq_or_eq_of_guarded (f := finalEffect data) h
    · exact ⟨fun _ _ _ _ => rfl, rfl, rfl, rfl, rfl, rfl⟩
    · exact finalEffect_frame data s
  · obtain rfl | rfl := eq_or_eq_of_guarded (f := raiseFault .illegalCommand) h <;>
      exact ⟨rfl, rfl, rfl, rfl, rfl, rfl, rfl, rfl⟩

end Sys2Proof.Machine
end

section
/-! PROOF. What a command word can do from ERR = 0, and the faults. -/

namespace Sys2Proof.Machine

open Sys2Proof Sys2Proof.Statements

/-- R290: all that a command word can lead to from a state with ERR = 0, by the word and the phase. -/
inductive CommandOutcome (s : State) : BitVec 10 → State → Prop
  /-- R84 -/
  | illegal {cw : BitVec 10} (hill : illegalWord cw = true) : CommandOutcome s cw (raiseFault .illegalCommand s)
  /-- R291 -/
  | init : CommandOutcome s 0x000#10 (startMessage s)
  /-- R292 -/
  | update (data : Byte) (hphase : s.phase = .absorb) : CommandOutcome s (0b01#2 ++ data) (absorbByte data s)
  /-- R292 -/
  | updateDone (data : Byte) (hphase : s.phase = .done) :
    CommandOutcome s (0b01#2 ++ data) (raiseFault .updateWhenDone s)
  /-- R293 -/
  | final (hphase : s.phase = .absorb) : CommandOutcome s 0x200#10 (finishMessage s)
  /-- R293 -/
  | finalDone (hphase : s.phase = .done) : CommandOutcome s 0x200#10 (raiseFault .finalWhenDone s)

theorem CommandOutcome.execWord_eq {s t : State} {cw : BitVec 10} (h : CommandOutcome s cw t) (herr : s.err = false) :
    execWord (.command cw) s = .next t := by
  cases h with
  | illegal hill => rw [execWord_illegal hill, rejectWord_of_ok herr]
  | init => rw [execWord_of_decode decodeCommand_initWord, exec_init_of_ok herr]
  | update data hphase => rw [execWord_of_decode (decodeCommand_append_update data), exec_update_absorb herr hphase]
  | updateDone data hphase => rw [execWord_of_decode (decodeCommand_append_update data), exec_update_done herr hphase]
  | final hphase => rw [execWord_of_decode decodeCommand_finalWord, exec_final_absorb herr hphase]
  | finalDone hphase => rw [execWord_of_decode decodeCommand_finalWord, exec_final_done herr hphase]

/-- No word is left out. -/
theorem commandOutcome_exists (s : State) (cw : BitVec 10) : ∃ t, CommandOutcome s cw t := by
  by_cases hill : illegalWord cw = true
  · exact ⟨_, .illegal hill⟩
  rcases decodeCommand_outcomes cw with ⟨hop, hdata, _⟩ | ⟨hop, hdata, _⟩ | ⟨hop, _⟩ | ⟨hop, hdata, _⟩ |
    ⟨hop, hdata, _⟩ | ⟨hop, _⟩
  · rw [← commandWord_eq_append hop hdata]
    exact ⟨_, .init⟩
  · exact absurd ((illegalWord_iff cw).2 (.inr ⟨.inl hop, hdata⟩)) hill
  · rw [← commandWord_eq_append hop rfl]
    cases hphase : s.phase with
    | absorb => exact ⟨_, .update _ hphase⟩
    | done => exact ⟨_, .updateDone _ hphase⟩
  · rw [← commandWord_eq_append hop hdata]
    cases hphase : s.phase with
    | absorb => exact ⟨_, .final hphase⟩
    | done => exact ⟨_, .finalDone hphase⟩
  · exact absurd ((illegalWord_iff cw).2 (.inr ⟨.inr hop, hdata⟩)) hill
  · exact absurd ((illegalWord_iff cw).2 (.inl hop)) hill

/-- The inversion of a command word at ERR = 0. -/
theorem execWord_command_iff {s : State} (herr : s.err = false) (cw : BitVec 10) (t : State) :
    execWord (.command cw) s = .next t ↔ CommandOutcome s cw t := by
  refine ⟨fun h => ?_, fun h => h.execWord_eq herr⟩
  obtain ⟨u, hu⟩ := commandOutcome_exists s cw
  obtain rfl := next_unique (hu.execWord_eq herr) h
  exact hu

theorem absorbByte_err (data : Byte) (s : State) : (absorbByte data s).err = s.err := by
  obtain ⟨_, herr, _⟩ := absorbByte_frame data s
  exact herr

theorem finishMessage_err (s : State) : (finishMessage s).err = s.err := by
  obtain ⟨_, _, herr, _⟩ := finishMessage_frame s
  exact herr

theorem absorbByte_errCode (data : Byte) (s : State) : (absorbByte data s).errCode = s.errCode := by
  obtain ⟨_, _, hcode, _⟩ := absorbByte_frame data s
  exact hcode

theorem finishMessage_errCode (s : State) : (finishMessage s).errCode = s.errCode := by
  obtain ⟨_, _, _, hcode, _⟩ := finishMessage_frame s
  exact hcode

theorem Violation.code_ne_noFault (v : Violation) : v.code ≠ .noFault := by
  cases v <;> decide

/-- R324: from ERR = 0 a command ends with ERR = 1 only by raising a fault. -/
theorem CommandOutcome.raised_of_err {s t : State} {cw : BitVec 10} (h : CommandOutcome s cw t) (herr : s.err = false)
    (hfault : t.err = true) : ∃ v, t = raiseFault v s := by
  cases h with
  | illegal | updateDone | finalDone => exact ⟨_, rfl⟩
  | init => simp [herr] at hfault
  | update => simp [absorbByte_err, herr] at hfault
  | final => simp [finishMessage_err, herr] at hfault

/-- Settles O15: a command that faults answers `raiseFault v s`, and no violation is recorded under code 0. -/
theorem faultsArePrecise : Obligations.FaultsArePrecise := by
  intro s t cw herr hexec hfault
  obtain ⟨v, rfl⟩ := ((execWord_command_iff herr cw t).1 hexec).raised_of_err herr hfault
  exact ⟨rfl, v.code_ne_noFault⟩

end Sys2Proof.Machine
end

section
/-! PROOF. Which commands fault, with which code, and what a faulted engine keeps. -/

namespace Sys2Proof.Machine

open Sys2Proof Sys2Proof.Statements

theorem opField_initWord : opField 0x000#10 = 0b00#2 := opField_append 0b00#2 0#8

theorem opField_finalWord : opField 0x200#10 = 0b10#2 := opField_append 0b10#2 0#8

theorem illegalWord_initWord : illegalWord 0x000#10 = false := by decide

theorem illegalWord_finalWord : illegalWord 0x200#10 = false := by decide

theorem illegalWord_update (data : Byte) : illegalWord (0b01#2 ++ data) = false := by
  simp [illegalWord]

theorem updateWord_ne_finalWord (data : Byte) : 0b01#2 ++ data ≠ 0x200#10 := by
  intro h
  have hop := congrArg opField h
  rw [opField_append, opField_finalWord] at hop
  exact absurd hop (by decide)

/-- R321 for the code of an illegal word: no other outcome is recorded under it. -/
theorem CommandOutcome.code3_iff {s t : State} {cw : BitVec 10} (h : CommandOutcome s cw t) (herr : s.err = false) :
    (t.errCode.bits = 3 ∧ t.err = true) ↔ illegalWord cw = true := by
  cases h with
  | illegal hill => simp [hill, Violation.code, ErrCode.bits]
  | init => simp [illegalWord_initWord, herr]
  | update data => simp [illegalWord_update, absorbByte_err, herr]
  | updateDone data => simp [illegalWord_update, Violation.code, ErrCode.bits]
  | final => simp [illegalWord_finalWord, finishMessage_err, herr]
  | finalDone => simp [illegalWord_finalWord, Violation.code, ErrCode.bits]

/-- R321 for a legal word: each outcome has one code, and the word and the phase tell the outcome. -/
theorem CommandOutcome.legal_codes {s t : State} {cw : BitVec 10} (h : CommandOutcome s cw t) (herr : s.err = false)
    (hcode : s.errCode = .noFault) (hlegal : illegalWord cw = false) :
    (t.errCode.bits = 1 ∧ t.err = true ↔ cw = 0x200 ∧ s.phase = .done) ∧
    (t.errCode.bits = 2 ∧ t.err = true ↔ opField cw = 0b01 ∧ s.phase = .done) ∧
    (t.errCode.bits = 0 ∧ t.err = false ↔ ¬ (opField cw ≠ 0b00 ∧ s.phase = .done)) := by
  cases h with
  | illegal hill => exact absurd (hlegal.symm.trans hill) Bool.false_ne_true
  | init => simp [opField_initWord, herr, hcode, ErrCode.bits]
  | update data hphase => simp [absorbByte_err, absorbByte_errCode, herr, hcode, hphase, ErrCode.bits]
  | updateDone data hphase => simp [Violation.code, ErrCode.bits, hphase, updateWord_ne_finalWord]
  | final hphase => simp [finishMessage_err, finishMessage_errCode, herr, hcode, hphase, ErrCode.bits]
  | finalDone hphase => simp [opField_finalWord, Violation.code, ErrCode.bits, hphase]

/-- Settles O16: the codes are read off the outcomes of a command word. -/
theorem faultCauses : Obligations.FaultCauses := by
  intro s cw herr
  obtain ⟨t, ht⟩ := commandOutcome_exists s cw
  exact ⟨t, ht.execWord_eq herr, ht.code3_iff herr, ht.legal_codes herr⟩

/-! ## The host's reads -/

theorem readDigest_of_valid {s : State} (h : s.valid = true) : readDigest s = s.addSeen (.digest (serialize s.h)) :=
  if_pos h

theorem readHex_of_valid {s : State} (h : s.valid = true) : readHex s = s.addSeen (.hex (hex (serialize s.h))) :=
  if_pos h

theorem readDigest_of_invalid {s : State} (h : s.valid = false) :
    readDigest s = (s.addSeen (.digest (Config.freeDigest s.freeReads))).nextFree := by
  simp [readDigest, h]

theorem readHex_of_invalid {s : State} (h : s.valid = false) :
    readHex s = (s.addSeen (.hex (Config.freeHex s.freeReads))).nextFree := by
  simp [readHex, h]

/-- R64: a read adds one reading to `seen` and touches at most the counter of free values beside it. -/
theorem perform_read {x : HostStep} (hx : x = .readStatus ∨ x = .readDigest ∨ x = .readHex) (s : State) :
    ∃ r n, perform x s = .next { s with seen := s.seen ++ [r], freeReads := n } := by
  rcases hx with rfl | rfl | rfl
  · exact ⟨_, _, rfl⟩
  · cases hv : s.valid with
    | true => exact ⟨_, _, congrArg Host.Outcome.next (readDigest_of_valid hv)⟩
    | false => exact ⟨_, _, congrArg Host.Outcome.next (readDigest_of_invalid hv)⟩
  · cases hv : s.valid with
    | true => exact ⟨_, _, congrArg Host.Outcome.next (readHex_of_valid hv)⟩
    | false => exact ⟨_, _, congrArg Host.Outcome.next (readHex_of_invalid hv)⟩

/-- The inversion of a host step: RESET, a command word, or a selector or a read, which write the model's own fields
only. -/
theorem perform_cases {x : HostStep} {s t : State} (h : perform x s = .next t) :
    (∃ dropped, x = .reset dropped ∧ t = resetEvent s) ∨
    (∃ cw, x = .present (.command cw) ∧ execWord (.command cw) s = .next t) ∨
    ∃ w r n, t = { s with work := w, seen := r, freeReads := n } := by
  have hread (hx : x = .readStatus ∨ x = .readDigest ∨ x = .readHex) :
      ∃ w r n, t = { s with work := w, seen := r, freeReads := n } := by
    obtain ⟨r, n, hr⟩ := perform_read hx s
    exact ⟨s.work, _, n, next_unique h hr⟩
  cases x with
  | reset dropped => exact .inl ⟨dropped, rfl, (Host.Outcome.next.inj h).symm⟩
  | present w =>
    cases w with
    | command cw => exact .inr (.inl ⟨cw, rfl, h⟩)
    | selector i => exact .inr (.inr ⟨_, s.seen, s.freeReads, next_unique h (exec_decodeSelector i s)⟩)
  | readStatus => exact .inr (.inr (hread (.inl rfl)))
  | readDigest => exact .inr (.inr (hread (.inr (.inl rfl))))
  | readHex => exact .inr (.inr (hread (.inr (.inr rfl))))

/-- Settles O23: a read writes `seen` and `freeReads` only. -/
theorem readsHaveNoSideEffect : Obligations.ReadsHaveNoSideEffect := by
  intro s x rest hx hp
  obtain ⟨r, n, hread⟩ := perform_read hx (s.setPending rest)
  exact ⟨_, r, (step_of_pending hp).trans hread, rfl, rfl, rfl, rfl, rfl, rfl, rfl, rfl⟩

/-- Settles O24: with VALID = 1 the reads take their first branch. -/
theorem readsReturnOutputs : Obligations.ReadsReturnOutputs := fun _ =>
  ⟨rfl, fun h => congrArg Host.Outcome.next (readDigest_of_valid h),
    fun h => congrArg Host.Outcome.next (readHex_of_valid h)⟩

/-- Settles O25: with VALID = 0 the reading is a free value of the counter, and VALID looks at PHASE and ERR only. -/
theorem invalidReadsHideState : Obligations.InvalidReadsHideState := by
  intro s h' w' buf' x hv hx
  have hv' : ({ s with h := h', buf := buf', work := w' } : State).valid = false := hv
  rcases hx with rfl | rfl
  · exact ⟨_, congrArg Host.Outcome.next (readDigest_of_invalid hv),
      congrArg Host.Outcome.next (readDigest_of_invalid hv')⟩
  · exact ⟨_, congrArg Host.Outcome.next (readHex_of_invalid hv), congrArg Host.Outcome.next (readHex_of_invalid hv')⟩

/-! ## RESET, and the faulted state -/

/-- Settles O18: the fields are those `resetEvent` writes, and STATUS follows from PHASE, ERR and ERRCODE. -/
theorem resetSetsRuleValues : Obligations.ResetSetsRuleValues := by
  intro s dropped rest hp
  exact ⟨resetEvent (s.setPending rest), step_of_pending hp, rfl, rfl, rfl, rfl, rfl,
    State.status_eq_zero _ rfl rfl rfl, rfl, rfl, rfl⟩

/-- Settles O17: the guard keeps a faulted engine from every command word; selectors and reads write the model's own
fields only; RESET has no guard. -/
theorem onlyResetLeavesFault : Obligations.OnlyResetLeavesFault := by
  refine ⟨fun s t x herr hx h => ?_, fun s dropped _ => ⟨resetEvent s, rfl, rfl, rfl⟩⟩
  obtain ⟨dropped, rfl, _⟩ | ⟨cw, rfl, hexec⟩ | ⟨w, r, n, rfl⟩ := perform_cases h
  · exact absurd rfl (hx dropped)
  · obtain rfl := next_unique (execWord_of_err herr cw) hexec
    exact ⟨herr, rfl, rfl, rfl, rfl, rfl⟩
  · exact ⟨herr, rfl, rfl, rfl, rfl, rfl⟩

end Sys2Proof.Machine
end

section
/-! PROOF. The sequences of legal commands that fault. -/

namespace Sys2Proof.Machine

open Sys2Proof Sys2Proof.Statements

/-! ## Reuse after FINAL, command by command -/

theorem not_reusedAfterFinal_nil : ¬ ReusedAfterFinal [] := by
  rintro ⟨xs, ys, zs, o, h, _⟩
  cases xs <;> cases h

/-- A FINAL is reused when the very next command is no INIT: an INIT there would stand between it and any later one. -/
theorem reusedAfterFinal_cons (o : Op) (ops : List Op) : ReusedAfterFinal (o :: ops) ↔
    (o = .final ∧ ∃ p rest, ops = p :: rest ∧ p ≠ .init) ∨ ReusedAfterFinal ops := by
  constructor
  · rintro ⟨xs, ys, zs, p, h, hys, hp⟩
    cases xs with
    | nil =>
      obtain ⟨rfl, rfl⟩ := List.cons.inj h
      cases ys with
      | nil => exact .inl ⟨rfl, p, zs, rfl, hp⟩
      | cons y ys => exact .inl ⟨rfl, y, ys ++ p :: zs, rfl, hys y List.mem_cons_self⟩
    | cons x xs =>
      obtain ⟨rfl, rfl⟩ := List.cons.inj h
      exact .inr ⟨xs, ys, zs, p, rfl, hys, hp⟩
  · rintro (⟨rfl, p, rest, rfl, hp⟩ | ⟨xs, ys, zs, p, rfl, hys, hp⟩)
    · exact ⟨[], [], rest, p, rfl, fun _ h => absurd h List.not_mem_nil, hp⟩
    · exact ⟨o :: xs, ys, zs, p, rfl, hys, hp⟩

/-- R27: what the phase remembers of the commands before it: in DONE a FINAL with no INIT since, in ABSORB none. -/
def Phase.history (p : Phase) : List Op :=
  match p with
  | .absorb => []
  | .done => [.final]

theorem not_reusedAfterFinal_history (p : Phase) : ¬ ReusedAfterFinal p.history := by
  cases p <;> simp [Phase.history, reusedAfterFinal_cons, not_reusedAfterFinal_nil]

/-! ## Runs of legal commands -/

theorem hostStep_op_eq_command (o : Op) : ∃ cw, o.hostStep = .present (.command cw) := by
  cases o <;> exact ⟨_, rfl⟩

theorem perform_op_of_err {s : State} (herr : s.err = true) (o : Op) : perform o.hostStep s = .next s := by
  obtain ⟨cw, hcw⟩ := hostStep_op_eq_command o
  rw [hcw]
  exact execWord_of_err herr cw

/-- R329: one legal command from ERR = 0 either faults, where it reuses a finished engine, or leaves the engine in the
phase that remembers it. -/
theorem perform_op_of_ok {s : State} (herr : s.err = false) (o : Op) : ∃ t, perform o.hostStep s = .next t ∧
    t.pending = s.pending ∧ ∀ ops,
      (t.err = true ∨ ReusedAfterFinal (t.phase.history ++ ops)) ↔ ReusedAfterFinal (s.phase.history ++ o :: ops) := by
  have hrun {cw : BitVec 10} {t : State} (h : CommandOutcome s cw t) :
      perform (.present (.command cw)) s = .next t := h.execWord_eq herr
  cases o with
  | init =>
    refine ⟨_, hrun .init, rfl, fun ops => ?_⟩
    cases s.phase <;> simp [herr, Phase.history, reusedAfterFinal_cons]
  | update b =>
    have hword : Op.hostStep (.update b) = .present (.command (0b01#2 ++ b)) :=
      congrArg (fun cw => HostStep.present (.command cw)) (updateWord_eq_append b)
    rw [hword]
    cases hphase : s.phase with
    | absorb =>
      obtain ⟨hp, _, _, _, hpend, _⟩ := absorbByte_frame b s
      refine ⟨_, hrun (.update b hphase), hpend, fun ops => ?_⟩
      simp [absorbByte_err, herr, hp, hphase, Phase.history, reusedAfterFinal_cons]
    | done =>
      refine ⟨_, hrun (.updateDone b hphase), rfl, fun ops => ?_⟩
      simp [Phase.history, reusedAfterFinal_cons]
  | final =>
    cases hphase : s.phase with
    | absorb =>
      obtain ⟨_, hp, _, _, _, hpend, _⟩ := finishMessage_frame s
      refine ⟨_, hrun (.final hphase), hpend, fun ops => ?_⟩
      simp [finishMessage_err, herr, hp, Phase.history]
    | done =>
      refine ⟨_, hrun (.finalDone hphase), rfl, fun ops => ?_⟩
      simp [Phase.history, reusedAfterFinal_cons]

/-- R329 from every state: the run of a sequence of legal commands ends faulted if the engine was, or if the sequence
after what the phase remembers reuses a FINAL. -/
theorem run_ops (ops : List Op) (s : State) (hp : s.pending = ops.map Op.hostStep) :
    ∃ t, Host.Core.run core ops.length s = .next t ∧ t.pending = [] ∧
      (t.err = true ↔ s.err = true ∨ ReusedAfterFinal (s.phase.history ++ ops)) := by
  induction ops generalizing s with
  | nil =>
    refine ⟨s, rfl, hp, ?_⟩
    simp [not_reusedAfterFinal_history]
  | cons o ops ih =>
    have hstep : step s = perform o.hostStep (s.setPending (ops.map Op.hostStep)) := step_of_pending hp
    cases herr : s.err with
    | true =>
      rw [perform_op_of_err (by exact herr)] at hstep
      obtain ⟨t, hrun, hnil, hiff⟩ := ih (s.setPending (ops.map Op.hostStep)) rfl
      refine ⟨t, (run_succ_of_step hstep _).trans hrun, hnil, hiff.trans ?_⟩
      simp [herr]
    | false =>
      obtain ⟨u, hu, hpend, hu_iff⟩ := perform_op_of_ok (s := s.setPending (ops.map Op.hostStep)) herr o
      obtain ⟨t, hrun, hnil, hiff⟩ := ih u hpend
      refine ⟨t, (run_succ_of_step (hstep.trans hu) _).trans hrun, hnil, hiff.trans ((hu_iff ops).trans ?_)⟩
      simp

/-- Settles O21: from ERR = 0 in ABSORB nothing is remembered, so `run_ops` speaks of the sequence alone. -/
theorem faultsOnlyByReuseAfterFinal : Obligations.FaultsOnlyByReuseAfterFinal := by
  intro s ops herr hphase hp
  obtain ⟨t, hrun, hnil, hiff⟩ := run_ops ops s hp
  refine ⟨t, hrun, hnil, hiff.trans ?_⟩
  simp [herr, hphase, Phase.history]

end Sys2Proof.Machine
end

section
/-! PROOF. The message an engine has absorbed: its start, one more byte, and its end. -/

namespace Sys2Proof.Machine

open Sys2Proof Sys2Proof.Statements

/-! ## The fold -/

theorem fold_nil (h : Regs) : fold h [] = h := fold_short h (by decide)

theorem fold_cons_block (h : Regs) {b : List Byte} (hb : b.length = 64) (p : List Byte) :
    fold h (b ++ p) = fold (compress h (blockAt b 0)) p := by
  rw [fold_append h b p (by rw [hb]), fold_one h hb]

/-- Settles O39: the blocks of a whole number of blocks and what follows are the blocks of both in turn
(`fold_append`). -/
theorem foldTakesBlocksInOrder : Obligations.FoldTakesBlocksInOrder :=
  ⟨fold_nil, fun h _ p hb => fold_cons_block h hb p, fold_append⟩

/-! ## What an absorbing engine holds -/

/-- The bytes of `m` after its last whole block. -/
abbrev tailOf (m : List Byte) : List Byte := m.drop (64 * (m.length / 64))

theorem tailOf_length (m : List Byte) : (tailOf m).length = m.length % 64 := by
  rw [List.length_drop]
  omega

theorem tailOf_getD (m : List Byte) (j : Nat) : (tailOf m).getD j 0 = m.getD (64 * (m.length / 64) + j) 0 := by
  simp [List.getD_eq_getElem?_getD]

section
variable {s : State} {m : List Byte}

theorem Absorbing.h_eq (a : Absorbing s m) : s.h = fold iv m := a.h.trans (fold_take iv m)

/-- R32: FILL counts the bytes of the tail, the wrap of LEN included. -/
theorem Absorbing.fill (a : Absorbing s m) : s.len.toNat % 64 = m.length % 64 := by
  rw [a.len, BitVec.toNat_ofNat]
  omega

theorem Absorbing.buf_tail (a : Absorbing s m) {j : Nat} (hj : j < m.length % 64) :
    s.buf[j] = (tailOf m).getD j 0 :=
  (a.buf j hj).trans (tailOf_getD m j).symm

end

/-- An engine that holds IV and has counted nothing has absorbed the empty message. -/
theorem absorbing_nil {s : State} (herr : s.err = false) (hphase : s.phase = .absorb) (hlen : s.len = 0)
    (hh : s.h = iv) : Absorbing s [] :=
  ⟨herr, hphase, hlen, hh.trans (fold_nil iv).symm, fun _ hj => absurd hj (Nat.not_lt_zero _)⟩

theorem absorbing_startMessage {s : State} (herr : s.err = false) : Absorbing (startMessage s) [] :=
  absorbing_nil herr rfl rfl rfl

theorem absorbing_resetEvent (s : State) : Absorbing (resetEvent s) [] := absorbing_nil rfl rfl rfl rfl

/-- Settles O26: INIT and RESET both write IV, LEN = 0 and ABSORB. -/
theorem startAbsorbsNothing : Obligations.StartAbsorbsNothing :=
  ⟨fun s herr => ⟨startMessage s, exec_init_of_ok herr, absorbing_startMessage herr⟩, absorbing_resetEvent⟩

/-! ## UPDATE: one more byte -/

theorem len_append_byte {s : State} {m : List Byte} (a : Absorbing s m) (data : Byte) :
    BitVec.ofNat 64 (s.len.toNat + 1) = BitVec.ofNat 64 (m ++ [data]).length := by
  rw [a.len, List.length_append, List.length_singleton]
  apply BitVec.eq_of_toNat_eq
  simp

/-- R38 inside a block: no block is completed, and the byte joins the tail. -/
theorem Absorbing.append_inside {s : State} {m : List Byte} (a : Absorbing s m) (h63 : m.length % 64 ≠ 63)
    (data : Byte) : Absorbing (absorbByte data s) (m ++ [data]) := by
  have hlen : (m ++ [data]).length = m.length + 1 := by simp
  have hdiv : (m.length + 1) / 64 = m.length / 64 := by omega
  have hfill : m.length % 64 = s.len.toNat % 64 := a.fill.symm
  rw [absorbByte_inside (n := m.length % 64) (by omega) hfill h63]
  refine ⟨a.err, a.phase, len_append_byte a data, ?_, fun j hj => ?_⟩
  · rw [hlen, hdiv, List.take_append_of_le_length (by omega)]
    exact a.h
  · rw [hlen] at hj
    simp only [hlen, hdiv, Vector.getElem_set]
    split
    · next hlast =>
      have hplace : 64 * (m.length / 64) + j = m.length := by omega
      rw [hplace]
      simp
    · next hlast =>
      rw [a.buf j (by omega), List.getD_append _ _ _ _ (by omega)]

/-- The block that the 64th byte completes: the buffered bytes, and this one at offset 63. -/
theorem Absorbing.blockAt_tail_append {s : State} {m : List Byte} (a : Absorbing s m) (h63 : m.length % 64 = 63)
    (data : Byte) : blockAt (tailOf m ++ [data]) 0 = s.buf.set 63 data := by
  have htail : (tailOf m).length = 63 := (tailOf_length m).trans h63
  apply block_ext
  intro j hj
  rw [blockAt_getElem, Nat.mul_zero, Nat.zero_add, Vector.getElem_set]
  split
  · next hlast =>
    rw [← hlast, List.getD_append_right _ _ _ _ (by omega), htail]
    rfl
  · next hlast =>
    rw [List.getD_append _ _ _ _ (by omega), a.buf_tail (by omega)]

/-- R38 at a block's end: the tail and the byte are one whole block, folded into H; nothing is left over. -/
theorem Absorbing.append_last {s : State} {m : List Byte} (a : Absorbing s m) (h63 : m.length % 64 = 63)
    (data : Byte) : Absorbing (absorbByte data s) (m ++ [data]) := by
  have hlen : (m ++ [data]).length = m.length + 1 := by simp
  have hwhole : (tailOf m ++ [data]).length = 64 := by
    rw [List.length_append, tailOf_length, h63]
    rfl
  rw [absorbByte_last (a.fill.trans h63)]
  refine ⟨a.err, a.phase, len_append_byte a data, ?_, fun j hj => ?_⟩
  · rw [fold_take, fold_append_tail, fold_one _ hwhole, a.blockAt_tail_append h63, a.h_eq]
  · rw [hlen] at hj
    omega

/-- R38 for an accepted UPDATE at every length. -/
theorem Absorbing.append {s : State} {m : List Byte} (a : Absorbing s m) (data : Byte) :
    Absorbing (absorbByte data s) (m ++ [data]) := by
  by_cases h63 : m.length % 64 = 63
  · exact a.append_last h63 data
  · exact a.append_inside h63 data

/-- Settles O27: an absorbing engine accepts the byte, and `Absorbing.append` says what it then holds. -/
theorem updateExtendsMessage : Obligations.UpdateExtendsMessage := fun _ _ data a =>
  ⟨_, exec_update_absorb a.err a.phase data, a.append data⟩

/-! ## FINAL: the last blocks -/

theorem lengthField_getD_of_len (s : State) {m : List Byte} (a : Absorbing s m) {k : Nat} (hk : k < 8) :
    (lengthField m.length).getD k 0 = BitVec.ofNat 8 (8 * s.len.toNat % 2 ^ 64 / 2 ^ (8 * k)) := by
  rw [List.getD_eq_getElem?_getD, lengthField_getElem? _ _ hk, a.len, BitVec.toNat_ofNat, Nat.mul_mod_mod]
  rfl

/-- The bytes of a tail with its marker, `z` zeros and what follows them. -/
theorem getD_marked (t q : List Byte) (z j : Nat) : (t ++ [0x80] ++ List.replicate z 0 ++ q).getD j 0 =
    if j < t.length then t.getD j 0 else if j = t.length then 0x80 else if j < t.length + 1 + z then 0
    else q.getD (j - (t.length + 1 + z)) 0 := by
  have hmarked : (t ++ [(0x80 : Byte)] ++ List.replicate z 0).length = t.length + 1 + z := by simp; omega
  have hmark : (t ++ [(0x80 : Byte)]).length = t.length + 1 := by simp
  by_cases hzero : j < t.length + 1 + z
  · rw [List.getD_append _ _ _ _ (by omega)]
    by_cases hle : j < t.length + 1
    · rw [List.getD_append _ _ _ _ (by omega)]
      by_cases hlt : j < t.length
      · rw [if_pos hlt, List.getD_append _ _ _ _ hlt]
      · have heq : j = t.length := by omega
        rw [if_neg hlt, if_pos heq, heq, List.getD_append_right _ _ _ _ (Nat.le_refl _), Nat.sub_self]
        rfl
    · rw [if_neg (by omega), if_neg (by omega), if_pos hzero, List.getD_append_right _ _ _ _ (by omega),
        List.getD_replicate _ (by omega)]
  · rw [if_neg (by omega), if_neg (by omega), if_neg hzero, List.getD_append_right _ _ _ _ (by omega), hmarked]

section
variable {s : State} {m : List Byte}

/-- R293, FILL ≤ 55: the one last block has the bytes that FINAL writes. -/
theorem Absorbing.lastBlock_getElem (a : Absorbing s m) (hfill : m.length % 64 ≤ 55) (j : Nat) (hj : j < 64) :
    (blockAt (tailOf m ++ [0x80] ++ List.replicate (55 - m.length % 64) 0 ++ lengthField m.length) 0)[j] =
      if j < s.len.toNat % 64 then s.buf[j] else if j = s.len.toNat % 64 then 0x80 else if j < 56 then 0
      else BitVec.ofNat 8 (8 * s.len.toNat % 2 ^ 64 / 2 ^ (8 * (j - 56))) := by
  have hend : m.length % 64 + 1 + (55 - m.length % 64) = 56 := by omega
  rw [blockAt_getElem, Nat.mul_zero, Nat.zero_add, getD_marked, tailOf_length, hend, a.fill]
  by_cases hlt : j < m.length % 64
  · rw [if_pos hlt, if_pos hlt, a.buf_tail hlt]
  rw [if_neg hlt, if_neg hlt]
  by_cases hle : j < 56
  · rw [if_pos hle, if_pos hle]
  · rw [if_neg hle, if_neg hle, lengthField_getD_of_len s a (by omega)]

/-- R293, FILL ≥ 56: the block of the marker. -/
theorem Absorbing.markerBlock_getElem (a : Absorbing s m) (hfill : 56 ≤ m.length % 64) (j : Nat) (hj : j < 64) :
    (blockAt (tailOf m ++ [0x80] ++ List.replicate (63 - m.length % 64) 0) 0)[j] =
      if j < s.len.toNat % 64 then s.buf[j] else if j = s.len.toNat % 64 then 0x80 else 0 := by
  have hbytes := getD_marked (tailOf m) [] (63 - m.length % 64) j
  have hend : m.length % 64 + 1 + (63 - m.length % 64) = 64 := by omega
  rw [List.append_nil, tailOf_length, hend, if_pos hj] at hbytes
  rw [blockAt_getElem, Nat.mul_zero, Nat.zero_add, hbytes, a.fill]
  by_cases hlt : j < m.length % 64
  · rw [if_pos hlt, if_pos hlt, a.buf_tail hlt]
  · rw [if_neg hlt, if_neg hlt]

/-- R293, FILL ≥ 56: the block of padding and the length. -/
theorem Absorbing.lengthBlock_getElem (a : Absorbing s m) (j : Nat) (hj : j < 64) :
    (blockAt (List.replicate 56 0 ++ lengthField m.length) 0)[j] =
      if j < 56 then 0 else BitVec.ofNat 8 (8 * s.len.toNat % 2 ^ 64 / 2 ^ (8 * (j - 56))) := by
  have hzeros : (List.replicate 56 (0 : Byte)).length = 56 := List.length_replicate
  rw [blockAt_getElem, Nat.mul_zero, Nat.zero_add]
  by_cases hlt : j < 56
  · rw [if_pos hlt, List.getD_append _ _ _ _ (by omega), List.getD_replicate _ hlt]
  · rw [if_neg hlt, List.getD_append_right _ _ _ _ (by omega), hzeros, lengthField_getD_of_len s a (by omega)]

/-- R39: FINAL folds the blocks of Pad(m) that the engine has not folded yet, one or two, and leaves the last in BUF. -/
theorem Absorbing.finish (a : Absorbing s m) :
    Finished (finishMessage s) m ∧ (blocks (pad m)).getLast? = some (finishMessage s).buf := by
  obtain ⟨hone, htwo⟩ := lastBlocksOfPad m (tailOf m) rfl
  have hfold (bs : List Block) (hbs : blocks (pad m) = blocks m ++ bs) : fold iv (pad m) = bs.foldl compress s.h := by
    rw [fold, hbs, List.foldl_append, ← fold, a.h_eq]
  by_cases hfill : m.length % 64 ≤ 55
  · have hbs := hone hfill
    rw [finishMessage_one (a.fill.trans_le hfill) (a.lastBlock_getElem hfill), hbs]
    exact ⟨⟨a.err, rfl, a.len, (hfold _ hbs).symm⟩, List.getLast?_concat⟩
  · have hge : 56 ≤ m.length % 64 := by omega
    have hbs := htwo hge
    rw [finishMessage_two (hge.trans_eq a.fill.symm) (a.markerBlock_getElem hge) a.lengthBlock_getElem, hbs]
    refine ⟨⟨a.err, rfl, a.len, (hfold _ hbs).symm⟩, ?_⟩
    simp

end

/-- Settles O28: an absorbing engine accepts FINAL, and `Absorbing.finish` says what it then holds. -/
theorem finalFinishesMessage : Obligations.FinalFinishesMessage := fun _ _ a =>
  ⟨_, exec_final_absorb a.err a.phase, a.finish⟩

end Sys2Proof.Machine
end

section
/-! PROOF. The invariant: every step keeps it, and RESET establishes it. -/

namespace Sys2Proof.Machine

open Sys2Proof Sys2Proof.Statements

/-- The invariant looks at the elements of R20 only. -/
theorem Inv.of_modelFields {s : State} (hs : Inv s) (w : Regs) (p : List HostStep) (r : List Reading) (n : Nat) :
    Inv { s with work := w, pending := p, seen := r, freeReads := n } :=
  ⟨hs.code, fun herr => (hs.tracks herr).imp fun _ => Or.imp
    (fun a => ⟨a.err, a.phase, a.len, a.h, a.buf⟩) (fun f => ⟨f.err, f.phase, f.len, f.h⟩)⟩

theorem inv_resetEvent (s : State) : Inv (resetEvent s) :=
  ⟨iff_of_true rfl rfl, fun _ => ⟨[], .inl (absorbing_resetEvent s)⟩⟩

/-- Settles O30: the state after reset is what the RESET event makes of itself. -/
theorem resetHasInvariant : Obligations.ResetHasInvariant := inv_resetEvent State.reset

theorem inv_raiseFault (v : Violation) (s : State) : Inv (raiseFault v s) :=
  ⟨iff_of_false v.code_ne_noFault (by simp), fun h => absurd h (by simp)⟩

/-- R38: with ERR = 0 and PHASE = ABSORB it is some message that the engine is absorbing. -/
theorem Inv.absorbing {s : State} (hs : Inv s) (herr : s.err = false) (hphase : s.phase = .absorb) :
    ∃ m, Absorbing s m := by
  obtain ⟨m, a | f⟩ := hs.tracks herr
  · exact ⟨m, a⟩
  · exact absurd (hphase.symm.trans f.phase) (by decide)

/-- The invariant from ERRCODE as it was and a message that is tracked. -/
theorem inv_of_tracked {s t : State} (hs : Inv s) (herr : s.err = false) (hcode : t.errCode = s.errCode)
    (hterr : t.err = false) {m : List Byte} (hm : Absorbing t m ∨ Finished t m) : Inv t :=
  ⟨iff_of_true (hcode.trans (hs.code.2 herr)) hterr, fun _ => ⟨m, hm⟩⟩

theorem CommandOutcome.inv {s t : State} {cw : BitVec 10} (h : CommandOutcome s cw t) (herr : s.err = false)
    (hs : Inv s) : Inv t := by
  cases h with
  | illegal | updateDone | finalDone => exact inv_raiseFault _ s
  | init => exact inv_of_tracked hs herr rfl herr (.inl (absorbing_startMessage herr))
  | update data hphase =>
    obtain ⟨m, a⟩ := hs.absorbing herr hphase
    exact inv_of_tracked hs herr (absorbByte_errCode data s) (a.append data).err (.inl (a.append data))
  | final hphase =>
    obtain ⟨m, a⟩ := hs.absorbing herr hphase
    obtain ⟨hfin, _⟩ := a.finish
    exact inv_of_tracked hs herr (finishMessage_errCode s) hfin.err (.inr hfin)

theorem perform_keeps_inv {s t : State} {x : HostStep} (hs : Inv s) (h : perform x s = .next t) : Inv t := by
  obtain ⟨_, _, rfl⟩ | ⟨cw, _, hexec⟩ | ⟨w, r, n, rfl⟩ := perform_cases h
  · exact inv_resetEvent s
  · cases herr : s.err with
    | true =>
      obtain rfl := next_unique (execWord_of_err herr cw) hexec
      exact hs
    | false => exact ((execWord_command_iff herr cw t).1 hexec).inv herr hs
  · exact hs.of_modelFields w s.pending r n

/-- A step does nothing, or takes the next host step off the list and performs it. -/
theorem step_cases {s t : State} (h : step s = .next t) :
    (s.pending = [] ∧ t = s) ∨ ∃ x rest, s.pending = x :: rest ∧ perform x (s.setPending rest) = .next t := by
  cases hp : s.pending with
  | nil => exact .inl ⟨rfl, by simpa [step, hp] using h.symm⟩
  | cons x rest => exact .inr ⟨x, rest, rfl, (step_of_pending hp).symm.trans h⟩

/-- Settles O29: an idle step keeps the state; a command word keeps the invariant in each of its outcomes
(`CommandOutcome.inv`), RESET starts an empty message, and the other host steps write the model's own fields only. -/
theorem everyStepKeepsInvariant : Obligations.EveryStepKeepsInvariant := by
  intro s t hs h
  obtain ⟨_, rfl⟩ | ⟨x, rest, _, hx⟩ := step_cases h
  · exact hs
  · exact perform_keeps_inv (hs.of_modelFields s.work rest s.seen s.freeReads) hx

end Sys2Proof.Machine
end

section
/-! PROOF. Whole digests: the run of a streamed message, after INIT and after RESET. -/

namespace Sys2Proof.Machine

open Sys2Proof Sys2Proof.Statements

/-- The step that presents the word of a well-formed instruction runs it. -/
theorem step_presentInstr {s : State} {i : Instr} {rest : List HostStep} (hwf : i.wf = true)
    (hp : s.pending = presentInstr i :: rest) : step s = exec i (s.setPending rest) :=
  stepRunsPresentedInstr s (encode i) rest i hp (decodeInvertsEncode i hwf)

/-- What an engine has absorbed does not depend on what the host does next. -/
theorem Absorbing.setPending {s : State} {m : List Byte} (a : Absorbing s m) (p : List HostStep) :
    Absorbing (s.setPending p) m := ⟨a.err, a.phase, a.len, a.h, a.buf⟩

/-- R295: the updates of `c` append `c` to the message, and the host reads nothing on the way. -/
theorem run_updates (c : List Byte) {s : State} {m : List Byte} {rest : List HostStep} (a : Absorbing s m)
    (hp : s.pending = updates c ++ rest) : ∃ t, Host.Core.run core c.length s = .next t ∧ Absorbing t (m ++ c) ∧
      t.pending = rest ∧ t.seen = s.seen := by
  induction c generalizing s m with
  | nil => exact ⟨s, rfl, by rwa [List.append_nil], hp, rfl⟩
  | cons b c ih =>
    have ha : Absorbing (s.setPending (updates c ++ rest)) m := a.setPending _
    have hstep : step s = .next (absorbByte b (s.setPending (updates c ++ rest))) :=
      (step_presentInstr rfl hp).trans (exec_update_absorb ha.err ha.phase b)
    obtain ⟨_, hpend, hseen, _⟩ := keepsModelFields_absorbByte b (s.setPending (updates c ++ rest))
    obtain ⟨t, hrun, ht, hrest, htseen⟩ := ih (ha.append b) hpend
    refine ⟨t, (run_succ_of_step hstep _).trans hrun, ?_, hrest, htseen.trans hseen⟩
    rwa [List.append_assoc] at ht

/-- R296, R297: FINAL and a read of HEX give the digest of the message absorbed. -/
theorem run_finalize {s : State} {m : List Byte} {rest : List HostStep} (a : Absorbing s m)
    (hp : s.pending = finalize ++ rest) : ∃ t, Host.Core.run core 2 s = .next t ∧ Finished t m ∧
      t.seen = s.seen ++ [.hex (md5 m)] ∧ t.pending = rest := by
  have ha : Absorbing (s.setPending (.readHex :: rest)) m := a.setPending _
  have hfinal : step s = .next (finishMessage (s.setPending (.readHex :: rest))) :=
    (step_presentInstr rfl hp).trans (exec_final_absorb ha.err ha.phase)
  obtain ⟨_, hpend, hseen, _⟩ := keepsModelFields_finishMessage (s.setPending (.readHex :: rest))
  obtain ⟨hfin, _⟩ := ha.finish
  generalize finishMessage (s.setPending (.readHex :: rest)) = u at *
  have hvalid : (u.setPending rest).valid = true := (State.valid_iff _).2 ⟨hfin.phase, hfin.err⟩
  have hread : step u = .next ((u.setPending rest).addSeen (.hex (hex (serialize u.h)))) :=
    (step_of_pending hpend).trans (congrArg Host.Outcome.next (readHex_of_valid hvalid))
  refine ⟨_, (run_succ_of_step hfinal 1).trans (run_succ_of_step hread 0), ⟨hfin.err, hfin.phase, hfin.len, hfin.h⟩,
    ?_, rfl⟩
  rw [State.addSeen_seen, State.setPending_seen, hseen, hfin.h, md5]
  rfl

/-- R298: after a step that starts the empty message, the updates of `m`, FINAL and the read of HEX. -/
theorem run_digest {s u : State} {m : List Byte} {rest : List HostStep} (hstart : step s = .next u)
    (a : Absorbing u []) (hp : u.pending = updates m ++ (finalize ++ rest)) :
    ∃ t, Host.Core.run core (m.length + 3) s = .next t ∧ Finished t m ∧ t.seen = u.seen ++ [.hex (md5 m)] ∧
      t.pending = rest := by
  obtain ⟨v, hrun, hv, hpend, hseen⟩ := run_updates m a hp
  obtain ⟨t, hrun', ht, htseen, hrest⟩ := run_finalize hv hpend
  exact ⟨t, (run_succ_of_step hstart _).trans ((run_add hrun 2).trans hrun'), ht, hseen ▸ htseen, hrest⟩

/-- R295: the updates of chunks are those of the chunks joined. -/
theorem flatMap_updates (chunks : List (List Byte)) : chunks.flatMap updates = updates chunks.flatten := by
  simp only [updates, List.map_flatten, List.flatMap]
  rfl

theorem Finished.valid {t : State} {m : List Byte} (f : Finished t m) : t.valid = true :=
  t.valid_iff.2 ⟨f.phase, f.err⟩

/-- Settles O31: INIT starts the empty message, and `run_digest` takes it from there. -/
theorem streamedDigestIsMd5 : Obligations.StreamedDigestIsMd5 := by
  intro s chunks rest herr hp
  rw [flatMap_updates, List.cons_append, List.cons_append, List.append_assoc] at hp
  have hinit : step s = .next (startMessage (s.setPending (updates chunks.flatten ++ (finalize ++ rest)))) :=
    (step_presentInstr rfl hp).trans (exec_init_of_ok herr)
  obtain ⟨t, hrun, ht, hseen, hrest⟩ := run_digest hinit (absorbing_startMessage herr) rfl
  exact ⟨t, hrun, ht.err, ht.phase, ht.valid, ht.h, hseen, hrest⟩

/-- Settles O32: RESET starts the empty message from every state, and `run_digest` takes it from there. -/
theorem digestAfterResetIsMd5 : Obligations.DigestAfterResetIsMd5 := by
  intro s m dropped rest hp
  rw [List.cons_append, List.cons_append, List.append_assoc] at hp
  have hreset : step s = .next (resetEvent (s.setPending (updates m ++ (finalize ++ rest)))) := step_of_pending hp
  obtain ⟨t, hrun, ht, hseen, hrest⟩ := run_digest hreset (absorbing_resetEvent _) rfl
  exact ⟨t, hrun, ht.err, ht.valid, hseen, hrest⟩

end Sys2Proof.Machine
end

section
/-! PROOF. The round rows: each runs its round, and the 64 in order are the rounds of a compression. -/

namespace Sys2Proof.Machine

open Sys2Proof Sys2Proof.Statements

/-- A list of rows that gives each instruction its own selector runs. -/
theorem roundRowsRun_of_decode {rows : List (Instr × BitVec 6)} (h : ∀ p ∈ rows, p.1 = decodeSelector p.2) :
    RoundRowsRun rows := fun p hp s => by
  rw [h p hp, exec_decodeSelector]
  rfl

/-- Settles O53: the list gives each instruction the selector that decodes to it, a comparison of 64 rows, and a
selector runs its round (`exec_decodeSelector`). -/
theorem everyRoundRowRuns : Obligations.EveryRoundRowRuns := roundRowsRun_of_decode (by decide)

theorem step_selector {s : State} {i : BitVec 6} {rest : List HostStep}
    (hp : s.pending = .present (.selector i) :: rest) :
    step s = .next { s with work := round i s.buf s.work, pending := rest } :=
  (step_of_pending hp).trans (exec_decodeSelector i _)

/-- R176: the first `n` selectors run the first `n` rounds. -/
theorem run_selectors (n : Nat) (s : State) (rest : List HostStep)
    (hp : s.pending = ((List.range n).map fun k => HostStep.present (.selector (BitVec.ofNat 6 k))) ++ rest) :
    Host.Core.run core n s = .next { s with work := rounds s.buf n s.work, pending := rest } := by
  induction n generalizing rest with
  | zero =>
    obtain rfl : s.pending = rest := hp
    rfl
  | succ n ih =>
    rw [List.range_succ, List.map_append, List.append_assoc] at hp
    rw [run_add (ih _ hp) 1, rounds_succ]
    exact run_succ_of_step (step_selector rfl) 0

/-- Settles O54: the registers are those of 64 rounds from H, and Compress is their feed-forward. -/
theorem roundRowsComputeCompress : Obligations.RoundRowsComputeCompress := by
  intro s rest hwork hp
  refine ⟨rounds s.buf 64 s.work, run_selectors 64 s rest hp, ?_⟩
  rw [compress, hwork, feedForward]

end Sys2Proof.Machine
end

section
/-! PROOF. The state the host cannot see: two states that differ in it alone stay so under every step. -/

namespace Sys2Proof.Machine

open Sys2Proof

/-! ## What UPDATE and FINAL write, field by field -/

theorem absorbByte_len (data : Byte) (s : State) : (absorbByte data s).len = s.len + 1 := by
  unfold absorbByte
  split <;> rfl

theorem absorbByte_h (data : Byte) (s : State) : (absorbByte data s).h =
    if s.fill = 63 then compress s.h (writeByte s.buf s.fill data) else s.h := by
  unfold absorbByte
  split <;> rfl

/-- FILL after one more byte is one more, or wraps to 0. -/
theorem le_of_lt_succ_mod {len : BitVec 64} {j : Nat} (h : j < (len + 1).toNat % 64) : j ≤ len.toNat % 64 := by
  have hsucc : (len + 1).toNat = (len.toNat + 1) % 2 ^ 64 := BitVec.toNat_add len 1
  omega

theorem finishMessage_h (s : State) : (finishMessage s).h =
    if 56 ≤ (fillOf s.len).val then
      compress (compress s.h (padMarker s).buf) (writeLength (zeroFill (padMarker s).buf 0 56) (bitLen s.len))
    else compress s.h (writeLength (padMarker s).buf (bitLen s.len)) := by
  by_cases h : 56 ≤ (fillOf s.len).val <;> simp [finishMessage, State.fill, h, spillBlock, padMarker]

/-! ## The views of two states that the host cannot tell apart -/

section
variable {s t : State}

theorem SameToHost.fill (h : SameToHost s t) : s.fill = t.fill := congrArg fillOf h.len

theorem SameToHost.status (h : SameToHost s t) : s.status = t.status := by
  simp only [State.status, h.errCode, h.err, h.phase]

theorem SameToHost.valid (h : SameToHost s t) : s.valid = t.valid := by
  simp only [State.valid, h.err, h.phase]

/-! ## Host steps that are no commands -/

theorem SameToHost.setPending (h : SameToHost s t) (p : List HostStep) : SameToHost (s.setPending p) (t.setPending p) :=
  { h with pending := rfl }

theorem SameToHost.setWork (h : SameToHost s t) (v w : Regs) : SameToHost (s.setWork v) (t.setWork w) :=
  { h with }

theorem SameToHost.addSeen (h : SameToHost s t) (r : Reading) : SameToHost (s.addSeen r) (t.addSeen r) :=
  { h with seen := congrArg (· ++ [r]) h.seen }

theorem SameToHost.nextFree (h : SameToHost s t) : SameToHost s.nextFree t.nextFree :=
  { h with freeReads := congrArg (· + 1) h.freeReads }

theorem SameToHost.resetEvent (h : SameToHost s t) : SameToHost (resetEvent s) (resetEvent t) :=
  ⟨rfl, rfl, rfl, rfl, h.pending, h.seen, h.freeReads, fun _ => rfl, fun _ _ _ _ _ => rfl⟩

theorem SameToHost.readStatus (h : SameToHost s t) : SameToHost (readStatus s) (readStatus t) := by
  rw [Machine.readStatus, Machine.readStatus, h.status]
  exact h.addSeen _

/-- R271: with VALID = 1 there is no error, so H is the same; with VALID = 0 the counter picks the reading. -/
theorem SameToHost.readDigest (h : SameToHost s t) : SameToHost (readDigest s) (readDigest t) := by
  cases hv : s.valid with
  | true =>
    obtain ⟨_, herr⟩ := s.valid_iff.1 hv
    rw [readDigest_of_valid hv, readDigest_of_valid (h.valid.symm.trans hv), h.h herr]
    exact h.addSeen _
  | false =>
    rw [readDigest_of_invalid hv, readDigest_of_invalid (h.valid.symm.trans hv), h.freeReads]
    exact (h.addSeen _).nextFree

theorem SameToHost.readHex (h : SameToHost s t) : SameToHost (readHex s) (readHex t) := by
  cases hv : s.valid with
  | true =>
    obtain ⟨_, herr⟩ := s.valid_iff.1 hv
    rw [readHex_of_valid hv, readHex_of_valid (h.valid.symm.trans hv), h.h herr]
    exact h.addSeen _
  | false =>
    rw [readHex_of_invalid hv, readHex_of_invalid (h.valid.symm.trans hv), h.freeReads]
    exact (h.addSeen _).nextFree

/-! ## Commands -/

/-- A faulted engine shows neither H nor BUF. -/
theorem SameToHost.raiseFault (h : SameToHost s t) (v : Violation) : SameToHost (raiseFault v s) (raiseFault v t) :=
  ⟨h.len, h.phase, rfl, rfl, h.pending, h.seen, h.freeReads, fun herr => absurd herr (by simp),
    fun herr => absurd herr (by simp)⟩

/-- An empty message has no byte of BUF below FILL. -/
theorem SameToHost.startMessage (h : SameToHost s t) : SameToHost (startMessage s) (startMessage t) :=
  ⟨rfl, rfl, h.err, h.errCode, h.pending, h.seen, h.freeReads, fun _ => rfl,
    fun _ _ j _ hj => absurd hj (Nat.not_lt_zero j)⟩

/-- The bytes up to FILL are the same once the byte at FILL is written. -/
theorem SameToHost.writeByte_getElem (h : SameToHost s t) (herr : s.err = false) (hphase : s.phase = .absorb)
    (v : Byte) {j : Nat} (hj : j < 64) (hle : j ≤ s.fill.val) :
    (writeByte s.buf s.fill v)[j] = (writeByte t.buf s.fill v)[j] := by
  rw [Machine.writeByte_getElem, Machine.writeByte_getElem]
  split
  · rfl
  · exact h.buf herr hphase j hj (by omega)

/-- R292: the block that is folded at FILL = 63 has every byte up to FILL. -/
theorem SameToHost.absorbByte (h : SameToHost s t) (herr : s.err = false) (hphase : s.phase = .absorb) (data : Byte) :
    SameToHost (absorbByte data s) (absorbByte data t) := by
  obtain ⟨hsphase, hserr, hscode, _, hspend, hsseen, hsfree⟩ := absorbByte_frame data s
  obtain ⟨htphase, hterr, htcode, _, htpend, htseen, htfree⟩ := absorbByte_frame data t
  refine ⟨?_, ?_, ?_, ?_, ?_, ?_, ?_, fun _ => ?_, fun _ _ j hj hlt => ?_⟩
  · rw [absorbByte_len, absorbByte_len, h.len]
  · rw [hsphase, htphase, h.phase]
  · rw [hserr, hterr, h.err]
  · rw [hscode, htcode, h.errCode]
  · rw [hspend, htpend, h.pending]
  · rw [hsseen, htseen, h.seen]
  · rw [hsfree, htfree, h.freeReads]
  · rw [absorbByte_h, absorbByte_h, ← h.fill, h.h herr]
    split
    · next hlast =>
      have hblk : writeByte s.buf s.fill data = writeByte t.buf s.fill data :=
        block_ext fun j hj => h.writeByte_getElem herr hphase data hj (by rw [hlast]; exact Nat.le_of_lt_succ hj)
      rw [hblk]
    · rfl
  · simp only [absorbByte_buf, ← h.fill]
    rw [State.fill_val, absorbByte_len] at hlt
    exact h.writeByte_getElem herr hphase data hj (by rw [State.fill_val]; exact le_of_lt_succ_mod hlt)

/-- R293: the block that FINAL folds first is the same: the bytes up to FILL, and zeros above. -/
theorem SameToHost.padMarker_buf (h : SameToHost s t) (herr : s.err = false) (hphase : s.phase = .absorb) :
    (padMarker s).buf = (padMarker t).buf := by
  apply block_ext
  intro j hj
  simp only [padMarker, State.setBuf_buf, zeroFill_getElem, ← h.fill]
  split
  · rfl
  · exact h.writeByte_getElem herr hphase 0x80 hj (by omega)

/-- R293: what FINAL leaves in H is made of H, LEN and the block that the marker is put into. -/
theorem SameToHost.finishMessage (h : SameToHost s t) (herr : s.err = false) (hphase : s.phase = .absorb) :
    SameToHost (finishMessage s) (finishMessage t) := by
  obtain ⟨hslen, hsphase, hserr, hscode, _, hspend, hsseen, hsfree⟩ := finishMessage_frame s
  obtain ⟨htlen, htphase, hterr, htcode, _, htpend, htseen, htfree⟩ := finishMessage_frame t
  refine ⟨?_, ?_, ?_, ?_, ?_, ?_, ?_, fun _ => ?_, fun _ hdone => ?_⟩
  · rw [hslen, htlen, h.len]
  · rw [hsphase, htphase]
  · rw [hserr, hterr, h.err]
  · rw [hscode, htcode, h.errCode]
  · rw [hspend, htpend, h.pending]
  · rw [hsseen, htseen, h.seen]
  · rw [hsfree, htfree, h.freeReads]
  · rw [finishMessage_h, finishMessage_h, h.padMarker_buf herr hphase, h.h herr, h.len]
  · exact absurd (hsphase.symm.trans hdone) (by decide)

/-- Each outcome of a command word on one state has its like on the other. -/
theorem SameToHost.commandOutcome (h : SameToHost s t) (herr : s.err = false) {cw : BitVec 10} {s' : State}
    (hs : CommandOutcome s cw s') : ∃ t', CommandOutcome t cw t' ∧ SameToHost s' t' := by
  cases hs with
  | illegal hill => exact ⟨_, .illegal hill, h.raiseFault _⟩
  | init => exact ⟨_, .init, h.startMessage⟩
  | update data hphase => exact ⟨_, .update data (h.phase.symm.trans hphase), h.absorbByte herr hphase data⟩
  | updateDone data hphase => exact ⟨_, .updateDone data (h.phase.symm.trans hphase), h.raiseFault _⟩
  | final hphase => exact ⟨_, .final (h.phase.symm.trans hphase), h.finishMessage herr hphase⟩
  | finalDone hphase => exact ⟨_, .finalDone (h.phase.symm.trans hphase), h.raiseFault _⟩

theorem SameToHost.execWord_command (h : SameToHost s t) {cw : BitVec 10} {s' : State}
    (hs : execWord (.command cw) s = .next s') : ∃ t', execWord (.command cw) t = .next t' ∧ SameToHost s' t' := by
  cases herr : s.err with
  | true =>
    obtain rfl := next_unique (execWord_of_err herr cw) hs
    exact ⟨t, execWord_of_err (h.err.symm.trans herr) cw, h⟩
  | false =>
    obtain ⟨t', ht, hsame⟩ := h.commandOutcome herr ((execWord_command_iff herr cw s').1 hs)
    exact ⟨t', ht.execWord_eq (h.err.symm.trans herr), hsame⟩

/-! ## Every host step -/

theorem SameToHost.perform (h : SameToHost s t) {x : HostStep} {s' : State} (hs : perform x s = .next s') :
    ∃ t', perform x t = .next t' ∧ SameToHost s' t' := by
  cases x with
  | reset _ =>
    obtain rfl := Host.Outcome.next.inj hs
    exact ⟨_, rfl, h.resetEvent⟩
  | present w =>
    cases w with
    | command cw => exact h.execWord_command hs
    | selector i =>
      obtain rfl := next_unique (exec_decodeSelector i s) hs
      exact ⟨_, exec_decodeSelector i t, h.setWork _ _⟩
  | readStatus =>
    obtain rfl := Host.Outcome.next.inj hs
    exact ⟨_, rfl, h.readStatus⟩
  | readDigest =>
    obtain rfl := Host.Outcome.next.inj hs
    exact ⟨_, rfl, h.readDigest⟩
  | readHex =>
    obtain rfl := Host.Outcome.next.inj hs
    exact ⟨_, rfl, h.readHex⟩

end

/-- Settles O33: both states have the same list, so they take the same host step, and each host step reads of the state
only what the relation makes equal. -/
theorem hiddenStateNeverReachesHost : Obligations.HiddenStateNeverReachesHost := by
  intro s t s' h hstep
  obtain ⟨hp, rfl⟩ | ⟨x, rest, hp, hx⟩ := step_cases hstep
  · exact ⟨t, by simp [step, ← h.pending, hp], h⟩
  · obtain ⟨t', ht, hsame⟩ := (h.setPending rest).perform hx
    exact ⟨t', (step_of_pending (h.pending.symm.trans hp)).trans ht, hsame⟩

end Sys2Proof.Machine
end
